-- ==== Sys2Proof/Word.lean ====
section
/-!
DEFINITION. The words of the WDP-7240: bytes on its ports, Line Clock times, serials.
-/

namespace Sys2Proof

/-- One byte of a port's byte stream (01, 1.1). -/
abbrev Byte := BitVec 8

/-- A time of the Line Clock, a 32-bit millisecond count that wraps (R17). -/
abbrev Time := BitVec 32

/-- A board serial: 32 bits on the wire, 0 is not a serial (00_scope, Identifiers). -/
abbrev Serial := Nat

/-- A set over `n` numbered members, as a yes/no per member: the spec's sets of areas, check slots,
reasons and event kinds hold each member at most once and have no order (00_scope, Sets and queues). -/
abbrev FlagSet (n : Nat) := Vector Bool n

end Sys2Proof
end

