-- ==== Sys2Proof/Syntax.lean ====
section
/-!
DEFINITION. The commands of the WDP-7240: one constructor of `Instr` for each row of
spec/opcode_table.json, with the row's operands.
-/

namespace Sys2Proof

/-- The two serial ports (01, opening). -/
inductive Port where
  | line
  | bench
  deriving DecidableEq, Repr

/-- The two spray lanes, numbered 0 and 1 (00_scope, Identifiers). -/
inductive LaneId where
  | lane0
  | lane1
  deriving DecidableEq, Repr

/-- The four slot addresses of a Station Port (05, table 5.1): 0 START, 1 END, 2 INSPECT, 3 BOARD. -/
inductive StationSlot where
  | startSlot
  | endSlot
  | inspectSlot
  | boardSlot
  deriving DecidableEq, Repr

/-- The three sources that ask the Entry Gate for oven entry (R140): a lane's exit, or the return station. -/
inductive Source where
  | lane (l : LaneId)
  | returnStation
  deriving DecidableEq, Repr

/-- A frame without its start byte, LEN and CHECK, which the wire form computes (R1). -/
structure Frame where
  kind : Byte
  tag : Byte
  payload : List Byte
  deriving DecidableEq, Repr

/-- One constructor per row of spec/opcode_table.json.

The rows named after a message kind are the event of TAKING such a frame as a command (R4). Their operands
are the port, the frame's TAG and its payload; the KIND is the row's own.

The rows that complete a record or a frame carry its last byte; the bytes before it are in the state, put
there by FRAME_BYTE_RECEIVED, STATION_BYTE_WRITTEN and OVEN_SENSOR_BYTE_RECEIVED (log 6). -/
inductive Instr where
  /-- R83: the power-on reset. -/
  | powerOn
  /-- R3: the last check byte of a frame, with its stop bit. -/
  | frameReceived (p : Port) (b : Byte)
  /-- R1: the 5 ms gap timer of the port's receiver expires. -/
  | frameGapExpiry (p : Port)
  /-- R6: the last byte of the frame at the head of the port's transmit queue has been sent. -/
  | frameSent (p : Port)
  /-- R4: a frame whose KIND is no command kind is taken. -/
  | badKindCommand (p : Port) (kind tag : Byte) (payload : List Byte)
  /-- R15. -/
  | identify (p : Port) (tag : Byte) (payload : List Byte)
  /-- R16. -/
  | getStatus (p : Port) (tag : Byte) (payload : List Byte)
  /-- R13. -/
  | getEvents (p : Port) (tag : Byte) (payload : List Byte)
  /-- R12. -/
  | ackEvents (p : Port) (tag : Byte) (payload : List Byte)
  /-- R11. -/
  | setNoticeMask (p : Port) (tag : Byte) (payload : List Byte)
  /-- R54. -/
  | getBoard (p : Port) (tag : Byte) (payload : List Byte)
  /-- R180. -/
  | listHolds (p : Port) (tag : Byte) (payload : List Byte)
  /-- R14. -/
  | setLineConfig (p : Port) (tag : Byte) (payload : List Byte)
  /-- R68. -/
  | setLaneConfig (p : Port) (tag : Byte) (payload : List Byte)
  /-- R153. -/
  | setOvenLayout (p : Port) (tag : Byte) (payload : List Byte)
  /-- R145. -/
  | ovenAccept (p : Port) (tag : Byte) (payload : List Byte)
  /-- R24. -/
  | writeRecipe (p : Port) (tag : Byte) (payload : List Byte)
  /-- R25: READ_RECIPE of a section, and of a section code that is none. -/
  | readRecipe (p : Port) (tag : Byte) (payload : List Byte)
  /-- R26: READ_RECIPE with section code 6. -/
  | readRecipeSummary (p : Port) (tag : Byte) (payload : List Byte)
  /-- R26: READ_RECIPE with section codes 7 to 10. -/
  | readFeatureMap (p : Port) (tag : Byte) (payload : List Byte)
  /-- R30. -/
  | bindAlias (p : Port) (tag : Byte) (payload : List Byte)
  /-- R31. -/
  | unbindAlias (p : Port) (tag : Byte) (payload : List Byte)
  /-- R28. -/
  | writeFeatureMap (p : Port) (tag : Byte) (payload : List Byte)
  /-- R34. -/
  | clearRecipes (p : Port) (tag : Byte) (payload : List Byte)
  /-- R36: the 250 ms clear timer expires. -/
  | clearTimerExpiry
  /-- R59. -/
  | laneEnable (p : Port) (tag : Byte) (payload : List Byte)
  /-- R60. -/
  | laneDisable (p : Port) (tag : Byte) (payload : List Byte)
  /-- R71. -/
  | laneReset (p : Port) (tag : Byte) (payload : List Byte)
  /-- R18. -/
  | lineReset (p : Port) (tag : Byte) (payload : List Byte)
  /-- R70. -/
  | clearNozzleCount (p : Port) (tag : Byte) (payload : List Byte)
  /-- R47. -/
  | announce (p : Port) (tag : Byte) (payload : List Byte)
  /-- R50. -/
  | withdraw (p : Port) (tag : Byte) (payload : List Byte)
  /-- R104. -/
  | pathBegin (p : Port) (tag : Byte) (payload : List Byte)
  /-- R106. -/
  | segments (p : Port) (tag : Byte) (payload : List Byte)
  /-- R107. -/
  | pathEnd (p : Port) (tag : Byte) (payload : List Byte)
  /-- R108. -/
  | pathKeep (p : Port) (tag : Byte) (payload : List Byte)
  /-- R109. -/
  | pathDiscard (p : Port) (tag : Byte) (payload : List Byte)
  /-- R176: DISPOSE with action 0, and a DISPOSE that names no action (log 5). -/
  | disposeRelease (p : Port) (tag : Byte) (payload : List Byte)
  /-- R176: DISPOSE with action 1. -/
  | disposeScrap (p : Port) (tag : Byte) (payload : List Byte)
  /-- R177: DISPOSE with action 2. -/
  | disposeRespray (p : Port) (tag : Byte) (payload : List Byte)
  /-- R178: DISPOSE with action 3. -/
  | disposeRecure (p : Port) (tag : Byte) (payload : List Byte)
  /-- R76: the slot address lines of a lane's Station Port change. -/
  | slotAddressChange (l : LaneId) (slot : StationSlot)
  /-- R75: the 2 ms gap timer of one assembler expires. -/
  | stationGapExpiry (l : LaneId) (slot : StationSlot)
  /-- R79: the byte that completes a START record. -/
  | startStrobe (l : LaneId) (b : Byte)
  /-- R80: the byte that completes an END record. -/
  | endStrobe (l : LaneId) (b : Byte)
  /-- R81: the byte that completes an inspection reading. -/
  | inspectReading (l : LaneId) (b : Byte)
  /-- R61: the byte that completes an ARRIVED record. -/
  | arrived (l : LaneId) (b : Byte)
  /-- R66: the byte that is a CLEARED record. -/
  | cleared (l : LaneId) (b : Byte)
  /-- R88: the 1 ms pace timer expires. -/
  | paceTimerExpiry (l : LaneId)
  /-- R93: the check timer expires. -/
  | checkTimerExpiry (l : LaneId)
  /-- R66: the eject timer expires. -/
  | ejectTimerExpiry (l : LaneId)
  /-- R115: the on-delay ends. -/
  | openDelayEnd (l : LaneId)
  /-- R115: the timed open ends. -/
  | openEnd (l : LaneId)
  /-- R117: the close settle ends. -/
  | closingEnd (l : LaneId)
  /-- R118: the segment gap timer expires. -/
  | segmentGapExpiry (l : LaneId)
  /-- R124: a flow-meter pulse. -/
  | flowPulse (l : LaneId)
  /-- R143: the flash-ready time of a waiting board is reached. -/
  | flashReadyExpiry (src : Source)
  /-- R143: the open-time deadline of a lane board expires. -/
  | laneDeadlineExpiry (l : LaneId)
  /-- R143: the deadline of the return-station board expires. -/
  | returnDeadlineExpiry
  /-- R142: the return-station presence input changes to the given level. -/
  | returnPresenceChange (level : Bool)
  /-- R148: the oven's entry sensor. -/
  | ovenEntryEvent
  /-- R149: the transfer timer expires. -/
  | transferTimerExpiry
  /-- R159: a conveyor encoder pulse. -/
  | encoderPulse
  /-- R155: the fifth byte of an Oven Sensor Line record, with its stop bit. -/
  | ovenSensorRecord (b : Byte)
  /-- R155: the 2 ms gap timer of the Oven Sensor Line expires. -/
  | ovenSensorGapExpiry
  /-- R157: a zone's age reaches the zone stale limit. -/
  | zoneStaleExpiry (z : Fin 6)
  /-- R160: the dose tick timer expires. -/
  | doseTick
  /-- R163: the oven's exit sensor. -/
  | ovenExitEvent
  /-- R173: the escalation deadline of a board's hold is reached. -/
  | escalationDeadlineExpiry (serial : Serial)
  /-- R44: 86 400 s have passed since a board's spray end time was set. -/
  | sprayEndTimeOld (serial : Serial)
  /-- R1: a byte on a port that completes no frame; `stop` is false for a missing stop bit. -/
  | frameByteReceived (p : Port) (b : Byte) (stop : Bool)
  /-- R75: a byte written to a slot address that completes no record. -/
  | stationByteWritten (l : LaneId) (slot : StationSlot) (b : Byte)
  /-- R155: a byte on the Oven Sensor Line that completes no record; `stop` is false for a missing stop bit. -/
  | ovenSensorByteReceived (b : Byte) (stop : Bool)
  deriving DecidableEq, Repr

end Sys2Proof
end

