-- ==== Sys2Proof/Decode.lean ====
section
/-!
DEFINITION. From a frame to the command it is. The opcode table gives no row any bits, so no word spells a
command; what spells a command on this part is a frame (KIND and payload, 01 table 1.4), and `commandOf`
reads it. `frameOf` goes back from a command to its frame.
-/

namespace Sys2Proof

/-- No row of the opcode table gives bits: no word spells a command. -/
def decodeTableWord (_nbits _w : Nat) : Option Instr := none

/-- READ_RECIPE (0x21) has three rows, told apart by the section code in payload byte 1 (R25, R26). -/
def readRecipeRow (p : Port) (tag : Byte) (payload : List Byte) : Instr :=
  if payload[1]? = some 6#8 then .readRecipeSummary p tag payload
  else if payload[1]? ∈ [some 7#8, some 8#8, some 9#8, some 10#8] then .readFeatureMap p tag payload
  else .readRecipe p tag payload

/-- DISPOSE (0x60) has four rows, told apart by the action in payload byte 4 (R174). A DISPOSE that names no
action of 0 to 3 is only refused; it stands with RELEASE (log 5). -/
def disposeRow (p : Port) (tag : Byte) (payload : List Byte) : Instr :=
  if payload[4]? = some 1#8 then .disposeScrap p tag payload
  else if payload[4]? = some 2#8 then .disposeRespray p tag payload
  else if payload[4]? = some 3#8 then .disposeRecure p tag payload
  else .disposeRelease p tag payload

/-- The row a frame is taken as on port `p`: the message-kind table (01, 1.4). Every KIND that is no command
kind, 0x70 and 0x80 upward among them, is BAD_KIND_COMMAND (R4 check 1). -/
def commandOf (p : Port) (f : Frame) : Instr :=
  match f.kind.toNat with
  | 0x01 => .identify p f.tag f.payload
  | 0x02 => .getStatus p f.tag f.payload
  | 0x03 => .getEvents p f.tag f.payload
  | 0x04 => .ackEvents p f.tag f.payload
  | 0x05 => .setNoticeMask p f.tag f.payload
  | 0x06 => .getBoard p f.tag f.payload
  | 0x07 => .listHolds p f.tag f.payload
  | 0x10 => .setLineConfig p f.tag f.payload
  | 0x11 => .setLaneConfig p f.tag f.payload
  | 0x12 => .setOvenLayout p f.tag f.payload
  | 0x13 => .ovenAccept p f.tag f.payload
  | 0x20 => .writeRecipe p f.tag f.payload
  | 0x21 => readRecipeRow p f.tag f.payload
  | 0x22 => .bindAlias p f.tag f.payload
  | 0x23 => .unbindAlias p f.tag f.payload
  | 0x24 => .writeFeatureMap p f.tag f.payload
  | 0x25 => .clearRecipes p f.tag f.payload
  | 0x30 => .laneEnable p f.tag f.payload
  | 0x31 => .laneDisable p f.tag f.payload
  | 0x32 => .laneReset p f.tag f.payload
  | 0x33 => .lineReset p f.tag f.payload
  | 0x34 => .clearNozzleCount p f.tag f.payload
  | 0x40 => .announce p f.tag f.payload
  | 0x41 => .withdraw p f.tag f.payload
  | 0x50 => .pathBegin p f.tag f.payload
  | 0x51 => .segments p f.tag f.payload
  | 0x52 => .pathEnd p f.tag f.payload
  | 0x53 => .pathKeep p f.tag f.payload
  | 0x54 => .pathDiscard p f.tag f.payload
  | 0x60 => disposeRow p f.tag f.payload
  | _ => .badKindCommand p f.kind f.tag f.payload

/-- The port and frame a command is taken from, for the rows that are taken from a receive queue. -/
def frameOf (i : Instr) : Option (Port × Frame) :=
  match i with
  | .badKindCommand p k t d => some (p, ⟨k, t, d⟩)
  | .identify p t d => some (p, ⟨0x01#8, t, d⟩)
  | .getStatus p t d => some (p, ⟨0x02#8, t, d⟩)
  | .getEvents p t d => some (p, ⟨0x03#8, t, d⟩)
  | .ackEvents p t d => some (p, ⟨0x04#8, t, d⟩)
  | .setNoticeMask p t d => some (p, ⟨0x05#8, t, d⟩)
  | .getBoard p t d => some (p, ⟨0x06#8, t, d⟩)
  | .listHolds p t d => some (p, ⟨0x07#8, t, d⟩)
  | .setLineConfig p t d => some (p, ⟨0x10#8, t, d⟩)
  | .setLaneConfig p t d => some (p, ⟨0x11#8, t, d⟩)
  | .setOvenLayout p t d => some (p, ⟨0x12#8, t, d⟩)
  | .ovenAccept p t d => some (p, ⟨0x13#8, t, d⟩)
  | .writeRecipe p t d => some (p, ⟨0x20#8, t, d⟩)
  | .readRecipe p t d => some (p, ⟨0x21#8, t, d⟩)
  | .readRecipeSummary p t d => some (p, ⟨0x21#8, t, d⟩)
  | .readFeatureMap p t d => some (p, ⟨0x21#8, t, d⟩)
  | .bindAlias p t d => some (p, ⟨0x22#8, t, d⟩)
  | .unbindAlias p t d => some (p, ⟨0x23#8, t, d⟩)
  | .writeFeatureMap p t d => some (p, ⟨0x24#8, t, d⟩)
  | .clearRecipes p t d => some (p, ⟨0x25#8, t, d⟩)
  | .laneEnable p t d => some (p, ⟨0x30#8, t, d⟩)
  | .laneDisable p t d => some (p, ⟨0x31#8, t, d⟩)
  | .laneReset p t d => some (p, ⟨0x32#8, t, d⟩)
  | .lineReset p t d => some (p, ⟨0x33#8, t, d⟩)
  | .clearNozzleCount p t d => some (p, ⟨0x34#8, t, d⟩)
  | .announce p t d => some (p, ⟨0x40#8, t, d⟩)
  | .withdraw p t d => some (p, ⟨0x41#8, t, d⟩)
  | .pathBegin p t d => some (p, ⟨0x50#8, t, d⟩)
  | .segments p t d => some (p, ⟨0x51#8, t, d⟩)
  | .pathEnd p t d => some (p, ⟨0x52#8, t, d⟩)
  | .pathKeep p t d => some (p, ⟨0x53#8, t, d⟩)
  | .pathDiscard p t d => some (p, ⟨0x54#8, t, d⟩)
  | .disposeRelease p t d => some (p, ⟨0x60#8, t, d⟩)
  | .disposeScrap p t d => some (p, ⟨0x60#8, t, d⟩)
  | .disposeRespray p t d => some (p, ⟨0x60#8, t, d⟩)
  | .disposeRecure p t d => some (p, ⟨0x60#8, t, d⟩)
  | .powerOn | .frameReceived _ _ | .frameGapExpiry _ | .frameSent _ | .clearTimerExpiry
  | .slotAddressChange _ _ | .stationGapExpiry _ _ | .startStrobe _ _ | .endStrobe _ _
  | .inspectReading _ _ | .arrived _ _ | .cleared _ _ | .paceTimerExpiry _ | .checkTimerExpiry _
  | .ejectTimerExpiry _ | .openDelayEnd _ | .openEnd _ | .closingEnd _ | .segmentGapExpiry _
  | .flowPulse _ | .flashReadyExpiry _ | .laneDeadlineExpiry _ | .returnDeadlineExpiry
  | .returnPresenceChange _ | .ovenEntryEvent | .transferTimerExpiry | .encoderPulse
  | .ovenSensorRecord _ | .ovenSensorGapExpiry | .zoneStaleExpiry _ | .doseTick | .ovenExitEvent
  | .escalationDeadlineExpiry _ | .sprayEndTimeOld _ | .frameByteReceived _ _ _
  | .stationByteWritten _ _ _ | .ovenSensorByteReceived _ _ => none

end Sys2Proof
end

