-- ==== Sys2Proof/Config.lean ====
section
/-!
DEFINITION. What the manual leaves to the part: the values it does not state. Neither constant has a
body, so no proof can lean on a particular value.
-/

namespace Sys2Proof.Config

/-- R15: the build code, "a fixed number that identifies the logic build of the silicon revision". The
spec does not give the number (log 8). -/
opaque buildCode : BitVec 16

/-- FREE VALUE (log 9). R111 sends the cursor after the fall as a 16-bit code, and R101 lets the cursor be
65 536, which 16 bits cannot hold: the `n`-th such code of a run is unconstrained. -/
opaque cursorCode : Nat → BitVec 16

end Sys2Proof.Config
end

