-- ==== Sys2Proof/Machine/State.lean ====
section
/-!
DEFINITION. The whole state of the WDP-7240, as plain data, block by block, and its value after power-on
(`State.reset`). INVENTORY.md lists every field with the rule that names it.
-/

namespace Sys2Proof.Machine

open Sys2Proof

/-! ### Link Interface (chapter 01) -/

/-- The nineteen event kinds of table 1.5. -/
inductive EventKind where
  | boardFinished
  | boardReleased
  | boardScrapped
  | holdCreated
  | holdEscalated
  | holdOverflow
  | queueLow0
  | queueLow1
  | queueEmpty0
  | queueEmpty1
  | laneFault
  | laneBlocked
  | strayBoard
  | strobeStale
  | serviceDue
  | clearDone
  | zoneStale
  | maskFeature
  | linkError
  deriving DecidableEq, Repr

/-- What raising an event supplies (1.5): a lane or none, a serial or 0, a 16-bit code, the time. -/
structure Detail where
  lane : Option LaneId
  serial : Serial
  code : Nat
  time : Time
  deriving DecidableEq, Repr

/-- A raised event record (R9): the detail of the occurrence that raised it and a count of 1 to 255. A record
whose flag is clear holds no detail and is `none` in the port's table. -/
structure EventRecord where
  detail : Detail
  count : Nat
  deriving DecidableEq, Repr

/-- The receiver states of R1, each with the bytes of the frame it holds. HEADER is the three forms that wait
for LEN, KIND and TAG; CHECK is the two forms that wait for the first and the second check byte. -/
inductive RxState where
  | hunt
  | headerLen
  | headerKind (len : Byte)
  | headerTag (len kind : Byte)
  | body (len kind tag : Byte) (got : List Byte)
  | checkHigh (len kind tag : Byte) (payload : List Byte)
  | checkLow (len kind tag : Byte) (payload : List Byte) (high : Byte)
  deriving DecidableEq, Repr

/-- An outgoing frame, marked as a notice or a reply (R6). -/
structure TxFrame where
  notice : Bool
  frame : Frame
  deriving DecidableEq, Repr

/-- One port of the Link Interface. -/
structure PortState where
  /-- Receiver state (R1). -/
  rxState : RxState
  /-- Expiry time of the 5 ms gap timer while it runs (R1). -/
  rxGap : Option Time
  /-- Receive queue, head first (R3). -/
  rx : List Frame
  /-- Transmit queue, head first (R6). -/
  tx : List TxFrame
  /-- The nineteen event records, `none` for a clear flag (R9). -/
  events : Vector (Option EventRecord) 19
  /-- Notice mask (R11). -/
  mask : FlagSet 19
  /-- Frame error count (R2). -/
  frameErrors : Nat
  deriving DecidableEq, Repr

/-- The five line settings (table 1.6). -/
structure LineSettings where
  transferTimeout : Nat
  entrySpacing : Nat
  zoneStaleLimit : Nat
  exitWindow : Nat
  remoteDisposition : Bool
  deriving DecidableEq, Repr

/-! ### Recipe Store (chapter 02) -/

/-- The MATERIAL section (R20). -/
structure Material where
  pulseVolume : Nat
  solids : Nat
  flowTolerance : Nat
  deriving DecidableEq, Repr

/-- One coating area of the AREAS section (R21). -/
structure AreaSpec where
  area : Nat
  filmMin : Nat
  filmMax : Nat
  deriving DecidableEq, Repr

/-- The class of a check slot (R22). -/
inductive CheckClass where
  | critical
  | suppress
  | advisory
  deriving DecidableEq, Repr

/-- The CURE section (R23). -/
structure Cure where
  refTemp : Int
  targetMinutes : Nat
  overCure : Nat
  overheatMargin : Nat
  deriving DecidableEq, Repr

/-- The hold policy (R23). -/
inductive HoldPolicy where
  | holdWet
  | holdAfterCure
  deriving DecidableEq, Repr

/-- The TIMING section (R23); seconds as the section gives them. -/
structure Timing where
  inspectTimeout : Nat
  flashOff : Nat
  maxOpen : Nat
  wetHold : Nat
  dripLimit : Nat
  policy : HoldPolicy
  deriving DecidableEq, Repr

/-- An entry of a feature map (R27): NONE (whose notice flag is off), a check slot with its notice flag, or
the END of code 255. -/
inductive MapEntry where
  | none
  | checkSlot (k : Fin 16) (notice : Bool)
  | endMark
  deriving DecidableEq, Repr

/-- A recipe slot (R19). A section's written mark is its being present. -/
structure RecipeSlot where
  material : Option Material
  areas : Option (List AreaSpec)
  features : Option (List CheckClass)
  cure : Option Cure
  timing : Option Timing
  editCount : Nat
  map : Vector MapEntry 256
  deriving DecidableEq, Repr

/-- The Recipe Store. -/
structure RecipeStore where
  slots : Vector RecipeSlot 8
  /-- The entries of the alias table (R29), kept in the order they were added (log 13). -/
  aliasTable : List (Nat × Fin 8)
  /-- `some t` while the store is CLEARING with its timer expiring at `t` (R34). -/
  clearTimer : Option Time
  deriving DecidableEq, Repr

/-! ### Board Register (chapter 03) -/

/-- The nine stages (R41). -/
inductive Stage where
  | announced
  | checking
  | armed
  | spraying
  | flashing
  | transfer
  | curing
  | held
  | reworkPending
  deriving DecidableEq, Repr

/-- The six locations (R41), LANE_0 and LANE_1 as `lane`. -/
inductive Location where
  | announceQueue
  | lane (l : LaneId)
  | returnStation
  | oven
  | hold
  deriving DecidableEq, Repr

/-- A mask verdict (R40, R90). -/
inductive Verdict where
  | unread
  | present
  | absent
  | unreadable
  deriving DecidableEq, Repr

/-- The spray end time of a record (R44), with the mark that it has become old. -/
structure SprayEnd where
  time : Time
  old : Bool
  deriving DecidableEq, Repr

/-- A board record (R40). The oven position is kept in the occupancy queue's entry (R158, log 16). -/
structure BoardRecord where
  serial : Serial
  slot : Fin 8
  lane : LaneId
  stage : Stage
  location : Location
  passAreas : FlagSet 12
  rework : Nat
  verdicts : Vector Verdict 16
  tallies : Vector Nat 12
  coated : Bool
  cured : Bool
  sprayEnd : Option SprayEnd
  dose : Nat
  drip : Nat
  reasons : FlagSet 20
  filmLow : FlagSet 12
  filmHigh : FlagSet 12
  maskCritical : FlagSet 16
  deriving DecidableEq, Repr

/-! ### The lane's blocks (chapters 04 to 08) -/

/-- The ten lane states (R57). -/
inductive LaneState where
  | off
  | idle
  | checking
  | armed
  | spraying
  | exitWait
  | transfer
  | ejecting
  | blocked
  | fault
  deriving DecidableEq, Repr

/-- An entry of an announce queue (R58). -/
structure QueueEntry where
  serial : Serial
  rework : Bool
  deriving DecidableEq, Repr

/-- The lane settings (R68), times as the table gives them. -/
structure LaneSettings where
  onDelayBead : Nat
  onDelayAtomize : Nat
  closeLeadBead : Nat
  closeLeadAtomize : Nat
  closeSettleBead : Nat
  closeSettleAtomize : Nat
  ejectTimeout : Nat
  gapLimit : Nat
  lowWater : Nat
  nozzleLimit : Nat
  deriving DecidableEq, Repr

/-- The Lane Controller (R57). -/
structure LaneCtl where
  state : LaneState
  disablePending : Bool
  ejectSubject : Option Serial
  ejectTimer : Option Time
  queue : List QueueEntry
  settings : LaneSettings
  nozzleCount : Nat
  serviceDue : Bool
  deriving DecidableEq, Repr

/-- A slot's assembler (R75): the bytes of a partial record, and the 2 ms gap timer. -/
structure Assembler where
  bytes : List Byte
  gap : Option Time
  deriving DecidableEq, Repr

/-- The result of an inspection reading (R74). -/
inductive ReadResult where
  | present
  | absent
  | unreadable
  deriving DecidableEq, Repr

/-- An inspection reading (R74). -/
structure Reading where
  code : Fin 256
  result : ReadResult
  deriving DecidableEq, Repr

/-- A record of the BOARD slot (R74). -/
inductive BoardReport where
  | arrived (serial : Serial)
  | cleared
  deriving DecidableEq, Repr

/-- The Station Port of a lane (chapter 05). -/
structure StationPort where
  startAsm : Assembler
  endAsm : Assembler
  inspectAsm : Assembler
  boardAsm : Assembler
  startSlot : Option Nat
  endSlot : Option Nat
  inspectQueue : List Reading
  boardSlot : Option BoardReport
  startOverruns : Nat
  endOverruns : Nat
  inspectOverruns : Nat
  boardOverruns : Nat
  /-- The level of the slot address lines, an input (R76). -/
  address : StationSlot
  deriving DecidableEq, Repr

/-- The Mask Checker (R86). -/
structure MaskChecker where
  checkTimer : Option Time
  paceTimer : Option Time
  ready : Bool
  unmappedCount : Nat
  lateCount : Nat
  deriving DecidableEq, Repr

/-- The two valves of a lane (R102). -/
inductive Valve where
  | bead
  | atomize
  deriving DecidableEq, Repr

/-- A segment record (R102), flow as stored. -/
structure Segment where
  number : Nat
  area : Fin 12
  valve : Valve
  length : Nat
  speed : Nat
  flow : Nat
  tags : List (Fin 16)
  deriving DecidableEq, Repr

/-- The path states (R101). -/
inductive PathState where
  | empty
  | opened
  | complete
  deriving DecidableEq, Repr

/-- The valve sequencer states (R101, R115): CLOSED, OPEN_DELAY, OPEN, CLOSING. -/
inductive SeqState where
  | closed
  | openDelay
  | opened
  | closing
  deriving DecidableEq, Repr

/-- The Path Executor (R101). -/
structure PathExec where
  state : PathState
  slot : Option (Fin 8)
  keep : Bool
  queue : List Segment
  last : Option Nat
  cursor : Nat
  seq : SeqState
  executing : Option Nat
  phaseTimer : Option Time
  gapTimer : Option Time
  /-- The time at which the sequencer entered OPEN for the executing segment (R116; the model's own). -/
  openedAt : Time
  /-- The actual open time of the executing segment once OPEN has ended (R115; the model's own). -/
  openTime : Nat
  deriving DecidableEq, Repr

/-- Flow Metering's own counts (R123). -/
structure FlowMeter where
  segPulses : Nat
  idleDrip : Nat
  deriving DecidableEq, Repr

/-- The five blocks of one lane. -/
structure Lane where
  ctl : LaneCtl
  station : StationPort
  checker : MaskChecker
  path : PathExec
  meter : FlowMeter
  deriving DecidableEq, Repr

/-! ### Entry Gate, Cure Tracker, Hold Manager (chapters 09 to 11) -/

/-- A board the Entry Gate waits for (R140): its times, the eligible mark (for the return station, also the
noted flash-ready expiry of R143), and whether the flash-ready timer still runs. -/
structure Waiting where
  serial : Serial
  flashReady : Time
  deadline : Option Time
  eligible : Bool
  flashTimer : Bool
  deriving DecidableEq, Repr

/-- The Entry Gate (R140, R142). -/
structure Gate where
  exit0 : Option Waiting
  exit1 : Option Waiting
  /-- The board the return station holds, at stage FLASHING or TRANSFER (R142). -/
  station : Option Waiting
  /-- The level of the return-station presence input (R142). -/
  presence : Bool
  grant : Option Source
  transferTimer : Option Time
  ovenAccept : Bool
  deriving DecidableEq, Repr

/-- The oven layout (R152, R153). -/
structure Layout where
  pitch : Nat
  lengths : List Nat
  deriving DecidableEq, Repr

/-- A zone table entry (R156), with its age counted up to 10 000 ms (R157). -/
structure Zone where
  temp : Option Int
  recordTime : Option Time
  stale : Bool
  age : Nat
  deriving DecidableEq, Repr

/-- An occupancy queue entry (R158). -/
structure OvenEntry where
  serial : Serial
  position : Nat
  deriving DecidableEq, Repr

/-- The Cure Tracker (R152). -/
structure Oven where
  layout : Option Layout
  zones : Vector Zone 6
  queue : List OvenEntry
  /-- The next expiry of the dose tick timer (R160). -/
  doseNext : Time
  /-- The bytes of the Oven Sensor Line record being assembled; empty while waiting (R155). -/
  sensorBytes : List Byte
  /-- Expiry time of the Oven Sensor Line's 2 ms gap timer (R155). -/
  sensorGap : Option Time
  deriving DecidableEq, Repr

/-- Where a held board was stopped (R168). -/
inductive HoldLocation where
  | lane (l : LaneId)
  | exitRack
  | returnStation
  deriving DecidableEq, Repr

/-- The state of a hold (R168). -/
inductive HoldState where
  | pending
  | escalated
  deriving DecidableEq, Repr

/-- A hold table entry (R168). -/
structure HoldEntry where
  serial : Serial
  location : HoldLocation
  created : Time
  wet : Bool
  deadline : Option Time
  state : HoldState
  deriving DecidableEq, Repr

/-! ### The machine -/

/-- The state of the whole part. -/
structure State where
  /-- The Line Clock (R17). -/
  clock : Time
  /-- The Line Port. -/
  line : PortState
  /-- The Bench Port. -/
  bench : PortState
  settings : LineSettings
  store : RecipeStore
  /-- The Board Register (R39), kept in the order of creation (log 13). -/
  records : List BoardRecord
  lane0 : Lane
  lane1 : Lane
  gate : Gate
  oven : Oven
  /-- The hold table, oldest first (R168). -/
  holds : List HoldEntry
  /-- The model's own: how many free values have been drawn (log 9). -/
  freeCount : Nat
  /-- The commands waiting, first in, first out. -/
  pending : List Instr
  deriving DecidableEq, Repr

/-- Why a step could stop the machine. No rule of the spec stops the part, and no meaning answers a fault:
the type is empty (log 12). -/
inductive Fault
  deriving DecidableEq, Repr

/-- Why a command could be refused by the MODEL (not by the part, whose refusals are replies). -/
inductive Refusal where
  /-- Raised by an arm of exec whose command has no meaning yet. Safe: nothing is claimed of it. No arm
  raises it. -/
  | notModelled (mnemonic : String)
  deriving DecidableEq, Repr

/-! ### Reset -/

/-- A port after power-on (end of 1.8). -/
def PortState.reset : PortState where
  rxState := .hunt
  rxGap := none
  rx := []
  tx := []
  events := Vector.replicate 19 none
  mask := Vector.replicate 19 false
  frameErrors := 0

/-- The line settings after power-on (table 1.6). -/
def LineSettings.reset : LineSettings where
  transferTimeout := 15000
  entrySpacing := 150
  zoneStaleLimit := 3000
  exitWindow := 150
  remoteDisposition := false

/-- A feature map after power-on and after a clear (R27). -/
def clearedMap : Vector MapEntry 256 := (Vector.replicate 256 MapEntry.none).set 255 .endMark

/-- A recipe slot after power-on and after a clear (R36, R38). -/
def RecipeSlot.cleared : RecipeSlot where
  material := none
  areas := none
  features := none
  cure := none
  timing := none
  editCount := 0
  map := clearedMap

/-- The Recipe Store after power-on (R38). -/
def RecipeStore.reset : RecipeStore where
  slots := Vector.replicate 8 RecipeSlot.cleared
  aliasTable := []
  clearTimer := none

/-- The lane settings after power-on (R68). -/
def LaneSettings.reset : LaneSettings where
  onDelayBead := 20
  onDelayAtomize := 20
  closeLeadBead := 30
  closeLeadAtomize := 30
  closeSettleBead := 15
  closeSettleAtomize := 15
  ejectTimeout := 20
  gapLimit := 10
  lowWater := 8
  nozzleLimit := 50

/-- A Lane Controller after power-on (R73). -/
def LaneCtl.reset : LaneCtl where
  state := .off
  disablePending := false
  ejectSubject := none
  ejectTimer := none
  queue := []
  settings := LaneSettings.reset
  nozzleCount := 0
  serviceDue := false

/-- An empty assembler with its gap timer stopped (R75). -/
def Assembler.reset : Assembler where
  bytes := []
  gap := none

/-- A Station Port after power-on (R85); the address lines are an input (log 11). -/
def StationPort.reset : StationPort where
  startAsm := Assembler.reset
  endAsm := Assembler.reset
  inspectAsm := Assembler.reset
  boardAsm := Assembler.reset
  startSlot := none
  endSlot := none
  inspectQueue := []
  boardSlot := none
  startOverruns := 0
  endOverruns := 0
  inspectOverruns := 0
  boardOverruns := 0
  address := .startSlot

/-- A Mask Checker after power-on (R86). -/
def MaskChecker.reset : MaskChecker where
  checkTimer := none
  paceTimer := none
  ready := false
  unmappedCount := 0
  lateCount := 0

/-- A Path Executor after power-on and after both resets (R101). -/
def PathExec.reset : PathExec where
  state := .empty
  slot := none
  keep := false
  queue := []
  last := none
  cursor := 1
  seq := .closed
  executing := none
  phaseTimer := none
  gapTimer := none
  openedAt := 0#32
  openTime := 0

/-- A Flow Metering block after power-on (R123). -/
def FlowMeter.reset : FlowMeter where
  segPulses := 0
  idleDrip := 0

/-- A lane after power-on. -/
def Lane.reset : Lane where
  ctl := LaneCtl.reset
  station := StationPort.reset
  checker := MaskChecker.reset
  path := PathExec.reset
  meter := FlowMeter.reset

/-- The Entry Gate after power-on (R151); the presence level is an input (log 11). -/
def Gate.reset : Gate where
  exit0 := none
  exit1 := none
  station := none
  presence := false
  grant := none
  transferTimer := none
  ovenAccept := false

/-- A zone table entry after power-on (R156). -/
def Zone.reset : Zone where
  temp := none
  recordTime := none
  stale := false
  age := 0

/-- The Cure Tracker after power-on (R152, R167): the first dose tick at 1 000 ms. -/
def Oven.reset : Oven where
  layout := none
  zones := Vector.replicate 6 Zone.reset
  queue := []
  doseNext := 1000#32
  sensorBytes := []
  sensorGap := none

/-- The part after power-on (R17, R38, R56, R73, R83, R85, R86, R101, R123, R151, R152, R181, end of 1.8). -/
def State.reset : State where
  clock := 0#32
  line := PortState.reset
  bench := PortState.reset
  settings := LineSettings.reset
  store := RecipeStore.reset
  records := []
  lane0 := Lane.reset
  lane1 := Lane.reset
  gate := Gate.reset
  oven := Oven.reset
  holds := []
  freeCount := 0
  pending := []

end Sys2Proof.Machine
end

