-- ==== Sys2Proof/Machine/Operands.lean ====
section
/-!
DEFINITION. Operand forms: the fields of payloads and records (byte order, signs, ranges), the wire form of a
frame with its CHECK, Line Clock arithmetic, and saturating counts.
-/

namespace Sys2Proof.Machine

open Sys2Proof

/-! ### Bytes and multi-byte fields: big-endian (00_scope, Byte order) -/

/-- Byte `i` of a payload; only read at offsets below its checked length. -/
def byteAt (d : List Byte) (i : Nat) : Byte := d.getD i 0#8

/-- The 2-byte field at offset `i`. -/
def word16At (d : List Byte) (i : Nat) : Nat := (byteAt d i).toNat * 256 + (byteAt d (i + 1)).toNat

/-- The 4-byte field at offset `i`. -/
def word32At (d : List Byte) (i : Nat) : Nat := word16At d i * 65536 + word16At d (i + 2)

/-- The signed 2-byte field at offset `i`. -/
def int16At (d : List Byte) (i : Nat) : Int :=
  if word16At d i < 32768 then (word16At d i : Int) else (word16At d i : Int) - 65536

/-- One byte carrying `n`. -/
def toByte (n : Nat) : Byte := BitVec.ofNat 8 n

/-- Two bytes carrying `n`, high byte first. -/
def bytes16 (n : Nat) : List Byte := [toByte (n / 256), toByte n]

/-- Four bytes carrying `n`, high byte first. -/
def bytes32 (n : Nat) : List Byte := bytes16 (n / 65536) ++ bytes16 n

/-- Two bytes carrying a signed value, high byte first. -/
def bytesInt16 (v : Int) : List Byte := bytes16 (v % 65536).toNat

/-- A flag as a byte: 0 off, 1 on. -/
def flagByte (b : Bool) : Byte := if b then 1#8 else 0#8

/-- A lane field (R8): 0 or 1. -/
def laneOf (b : Byte) : Option LaneId :=
  if b = 0#8 then some .lane0 else if b = 1#8 then some .lane1 else none

/-- The lane number. -/
def laneNumber (l : LaneId) : Nat := match l with | .lane0 => 0 | .lane1 => 1

/-- The lane field of an event detail: 0xFF for none (1.5). -/
def laneByte (l : Option LaneId) : Byte :=
  match l with
  | none => 0xFF#8
  | some l => toByte (laneNumber l)

/-- An on/off field (R8): 0 off, 1 on. -/
def onOffOf (b : Byte) : Option Bool :=
  if b = 0#8 then some false else if b = 1#8 then some true else none

/-- A field numbered 0 to `n` − 1. -/
def finOf (n : Nat) (b : Byte) : Option (Fin n) := if h : b.toNat < n then some ⟨b.toNat, h⟩ else none

/-! ### Saturation and Line Clock arithmetic -/

/-- "Saturating stops at the largest value of its stated width and stays there" (00_scope, Arithmetic). -/
def satAdd (cap n k : Nat) : Nat := min cap (n + k)

/-- Elapsed time: the difference of two Line Clock times modulo 2³² (R17). -/
def elapsed (now t : Time) : Nat := (now - t).toNat

/-- A time has been reached: every interval the part times lies well below 2³¹ ms (00_scope, Time), so a time
not yet reached lies less than 2³¹ ms ahead. -/
def reached (now t : Time) : Bool := elapsed now t < 2 ^ 31

/-- The time still to run to `t`, 0 once it has been reached (R146, R180). -/
def remaining (now t : Time) : Nat := if (t - now).toNat < 2 ^ 31 then (t - now).toNat else 0

/-- The Line Clock time `ms` milliseconds after `t`. -/
def after (t : Time) (ms : Nat) : Time := t + BitVec.ofNat 32 ms

/-- A stopped timer, or one whose expiry time has not come, is not due. -/
def timerDue (now : Time) (t : Option Time) : Bool := t.any (reached now)

/-! ### CHECK: CRC-16, polynomial 0x1021, initial value 0xFFFF, most significant bit first (R1) -/

/-- One bit of the CRC register. -/
def crcBit (c : BitVec 16) : BitVec 16 := if c.msb then (c <<< 1) ^^^ 0x1021#16 else c <<< 1

/-- One byte through the CRC register. -/
def crcByte (c : BitVec 16) (b : Byte) : BitVec 16 :=
  crcBit (crcBit (crcBit (crcBit (crcBit (crcBit (crcBit (crcBit
    (c ^^^ ((b.setWidth 16) <<< 8)))))))))

/-- The CRC over a list of bytes, without final inversion. -/
def crc16 (d : List Byte) : BitVec 16 := d.foldl crcByte 0xFFFF#16

/-- CHECK of a frame: over LEN, KIND, TAG and payload. -/
def frameCheck (len kind tag : Byte) (payload : List Byte) : BitVec 16 :=
  crc16 (len :: kind :: tag :: payload)

/-- The bytes of a frame on the line, in either direction (R1). -/
def wire (f : Frame) : List Byte :=
  let len := toByte f.payload.length
  [0xA5#8, len, f.kind, f.tag] ++ f.payload ++ bytes16 (frameCheck len f.kind f.tag f.payload).toNat

/-! ### Records of the Station Port and the Oven Sensor Line -/

/-- R74: result byte 1 is PRESENT, 2 is ABSENT, every other value is UNREADABLE. -/
def readResultOf (b : Byte) : ReadResult :=
  if b = 1#8 then .present else if b = 2#8 then .absent else .unreadable

/-- The result as MASK_FEATURE reports it (R91): 1 PRESENT, 2 ABSENT, 3 UNREADABLE. -/
def readResultCode (r : ReadResult) : Nat :=
  match r with
  | .present => 1
  | .absent => 2
  | .unreadable => 3

/-- R155: the check byte is the exclusive-or of the zone byte and the two temperature bytes. -/
def sensorCheck (d : List Byte) : Byte := byteAt d 1 ^^^ byteAt d 2 ^^^ byteAt d 3

/-! ### Codes of table rows -/

/-- The event kind numbers of table 1.5, less one. -/
def EventKind.idx (k : EventKind) : Fin 19 :=
  match k with
  | .boardFinished => 0
  | .boardReleased => 1
  | .boardScrapped => 2
  | .holdCreated => 3
  | .holdEscalated => 4
  | .holdOverflow => 5
  | .queueLow0 => 6
  | .queueLow1 => 7
  | .queueEmpty0 => 8
  | .queueEmpty1 => 9
  | .laneFault => 10
  | .laneBlocked => 11
  | .strayBoard => 12
  | .strobeStale => 13
  | .serviceDue => 14
  | .clearDone => 15
  | .zoneStale => 16
  | .maskFeature => 17
  | .linkError => 18

/-- An event kind field (R8): 1 to 19, as an index. -/
def eventIndexOf (b : Byte) : Option (Fin 19) :=
  if h : b.toNat - 1 < 19 ∧ 0 < b.toNat then some ⟨b.toNat - 1, h.1⟩ else none

/-- QUEUE_LOW_n. -/
def queueLowKind (l : LaneId) : EventKind := match l with | .lane0 => .queueLow0 | .lane1 => .queueLow1

/-- QUEUE_EMPTY_n. -/
def queueEmptyKind (l : LaneId) : EventKind := match l with | .lane0 => .queueEmpty0 | .lane1 => .queueEmpty1

/-- Lane state codes (R57, R16). -/
def LaneState.code (x : LaneState) : Nat :=
  match x with
  | .off => 0
  | .idle => 1
  | .checking => 2
  | .armed => 3
  | .spraying => 4
  | .exitWait => 5
  | .transfer => 6
  | .ejecting => 7
  | .blocked => 8
  | .fault => 9

/-- Path state codes (R16). -/
def PathState.code (x : PathState) : Nat :=
  match x with
  | .empty => 0
  | .opened => 1
  | .complete => 2

/-- Gate grant codes (R140, R16). -/
def grantByte (g : Option Source) : Byte :=
  match g with
  | some (.lane .lane0) => 0#8
  | some (.lane .lane1) => 1#8
  | some .returnStation => 2#8
  | none => 0xFF#8

/-- Stage codes (R55). -/
def Stage.code (x : Stage) : Nat :=
  match x with
  | .announced => 0
  | .checking => 1
  | .armed => 2
  | .spraying => 3
  | .flashing => 4
  | .transfer => 5
  | .curing => 6
  | .held => 7
  | .reworkPending => 8

/-- Location codes (R55). -/
def Location.code (x : Location) : Nat :=
  match x with
  | .announceQueue => 0
  | .lane .lane0 => 1
  | .lane .lane1 => 2
  | .returnStation => 3
  | .oven => 4
  | .hold => 5

/-- Verdict codes (R55). -/
def Verdict.code (x : Verdict) : Nat :=
  match x with
  | .unread => 0
  | .present => 1
  | .absent => 2
  | .unreadable => 3

/-- Hold location codes (HOLD_CREATED in table 1.5). -/
def HoldLocation.code (x : HoldLocation) : Nat :=
  match x with
  | .lane .lane0 => 0
  | .lane .lane1 => 1
  | .exitRack => 2
  | .returnStation => 3

/-- Hold state codes (R180). -/
def HoldState.code (x : HoldState) : Nat :=
  match x with
  | .pending => 0
  | .escalated => 1

/-- Class codes of FEATURES (R22). -/
def CheckClass.code (x : CheckClass) : Nat :=
  match x with
  | .critical => 0
  | .suppress => 1
  | .advisory => 2

/-- A class code (R22): 0 to 2. -/
def checkClassOf (b : Byte) : Option CheckClass :=
  if b = 0#8 then some .critical
  else if b = 1#8 then some .suppress
  else if b = 2#8 then some .advisory
  else none

/-- The bytes of a feature map entry (R26): the check slot, 0xFF for NONE or 0xFE for END, and the flag. -/
def MapEntry.bytes (e : MapEntry) : List Byte :=
  match e with
  | .none => [0xFF#8, 0#8]
  | .checkSlot k f => [toByte k.val, flagByte f]
  | .endMark => [0xFE#8, 0#8]

/-- The statuses of R5. -/
inductive Status where
  | ok
  | clamped
  | badKind
  | badLength
  | badValue
  | notFound
  | inUse
  | full
  | busy
  | wrongState
  | wrongPort
  | limit
  | service
  | notAllowed
  deriving DecidableEq, Repr

/-- Status codes (R5). -/
def statusCode (x : Status) : Nat :=
  match x with
  | .ok => 0
  | .clamped => 1
  | .badKind => 2
  | .badLength => 3
  | .badValue => 4
  | .notFound => 5
  | .inUse => 6
  | .full => 7
  | .busy => 8
  | .wrongState => 9
  | .wrongPort => 10
  | .limit => 11
  | .service => 12
  | .notAllowed => 13

end Sys2Proof.Machine
end

