-- ==== Sys2Proof/Machine/Flags.lean ====
section
/-!
DEFINITION. Sets and flags: sets of areas, check slots, reasons and event kinds; the reason codes of R46 and
what each allows (R175).
-/

namespace Sys2Proof.Machine

open Sys2Proof

/-! ### Sets -/

/-- The empty set. -/
def emptySet (n : Nat) : FlagSet n := Vector.replicate n false

/-- The set of the members a yes/no function names. -/
def setOf (n : Nat) (f : Fin n → Bool) : FlagSet n := Vector.ofFn f

/-- Adding one member; a member already in the set is there once (R45). -/
def setInsert {n : Nat} (v : FlagSet n) (i : Fin n) : FlagSet n := v.set i true

/-- Joining two sets. -/
def setUnion {n : Nat} (v w : FlagSet n) : FlagSet n := Vector.ofFn fun i => v[i] || w[i]

/-- A set with at least one member. -/
def setAny {n : Nat} (v : FlagSet n) : Bool := v.toList.any id

/-- The number whose bit of weight 2^i is set when i is a member (R55). -/
def weightOf (d : List Bool) : Nat :=
  match d with
  | [] => 0
  | b :: rest => (if b then 1 else 0) + 2 * weightOf rest

/-- A set as the number it is reported by (R55). -/
def setWeight {n : Nat} (v : FlagSet n) : Nat := weightOf v.toList

/-! ### Reasons (R46) -/

/-- The twenty reasons. -/
inductive Reason where
  | maskCritical
  | arrivalOrder
  | pathMismatch
  | inspectionLoss
  | pathUnderrun
  | strobeSkip
  | strobeLoss
  | pathTimeout
  | flowDeviation
  | drip
  | filmLow
  | filmHigh
  | openTime
  | transferFault
  | tempStale
  | overheat
  | undercure
  | overcure
  | laneAbort
  | wetExpired
  deriving DecidableEq, Repr

/-- The code of a reason (R46), less one: its place in the reason set. -/
def Reason.idx (r : Reason) : Fin 20 :=
  match r with
  | .maskCritical => 0
  | .arrivalOrder => 1
  | .pathMismatch => 2
  | .inspectionLoss => 3
  | .pathUnderrun => 4
  | .strobeSkip => 5
  | .strobeLoss => 6
  | .pathTimeout => 7
  | .flowDeviation => 8
  | .drip => 9
  | .filmLow => 10
  | .filmHigh => 11
  | .openTime => 12
  | .transferFault => 13
  | .tempStale => 14
  | .overheat => 15
  | .undercure => 16
  | .overcure => 17
  | .laneAbort => 18
  | .wetExpired => 19

/-- The spray reasons are codes 4 to 12 (R46). -/
def hasSprayReason (v : FlagSet 20) : Bool := (v.toList.drop 3).take 9 |>.any id

/-- The four dispositions (R174). -/
inductive Action where
  | release
  | scrap
  | respray
  | recure
  deriving DecidableEq, Repr

/-- R175: the reasons that allow an action, one yes/no per reason code from 1 to 20. -/
def Action.allowedBy (a : Action) : FlagSet 20 :=
  match a with
  | .release =>
    #v[false, false, false, true, true, true, true, true, true, true,
       true, true, false, false, false, true, false, true, false, false]
  | .respray =>
    #v[true, true, true, true, true, true, true, true, true, true,
       true, false, true, true, true, false, true, false, true, false]
  | .recure =>
    #v[false, false, false, false, false, false, false, false, false, false,
       false, false, true, true, true, false, true, false, false, false]
  | .scrap => Vector.replicate 20 true

/-- R175: an action is allowed for a board when every reason in its record allows it. -/
def actionAllowed (a : Action) (reasons : FlagSet 20) : Bool :=
  (List.finRange 20).all fun i => !reasons[i] || a.allowedBy[i]

/-! ### Slot state and marks -/

/-- The states of a recipe slot (R19). -/
inductive SlotState where
  | empty
  | part
  | ready
  deriving DecidableEq, Repr

/-- The written marks of a slot, MATERIAL to TIMING (R19). -/
def RecipeSlot.marks (r : RecipeSlot) : List Bool :=
  [r.material.isSome, r.areas.isSome, r.features.isSome, r.cure.isSome, r.timing.isSome]

/-- R19: EMPTY with no section marked, READY with all five, PARTIAL otherwise. -/
def RecipeSlot.state (r : RecipeSlot) : SlotState :=
  if r.marks.all id then .ready else if r.marks.any id then .part else .empty

/-- Slot state codes (R24). -/
def SlotState.code (x : SlotState) : Nat :=
  match x with
  | .empty => 0
  | .part => 1
  | .ready => 2

end Sys2Proof.Machine
end

