-- ==== Sys2Proof/Machine/Ops.lean ====
section
/-!
DEFINITION. The shared operations over the state: reaching a port, a lane, a record, a recipe; raising events
and queuing notices (R9, R10); taking a command and replying (R4 to R6); holds (R168 to R172); the merge gate's
arbitration (R144 to R147); and a lane's entry to its states (R60 to R66, R87).
-/

namespace Sys2Proof.Machine

open Sys2Proof

/-! ### Ports and lanes -/

/-- The state of a port. -/
def State.port (s : State) (p : Port) : PortState :=
  match p with
  | .line => s.line
  | .bench => s.bench

/-- Changing one port. -/
def State.modPort (s : State) (p : Port) (f : PortState → PortState) : State :=
  match p with
  | .line => { s with line := f s.line }
  | .bench => { s with bench := f s.bench }

/-- A lane's blocks. -/
def State.lane (s : State) (l : LaneId) : Lane :=
  match l with
  | .lane0 => s.lane0
  | .lane1 => s.lane1

/-- Changing one lane. -/
def State.modLane (s : State) (l : LaneId) (f : Lane → Lane) : State :=
  match l with
  | .lane0 => { s with lane0 := f s.lane0 }
  | .lane1 => { s with lane1 := f s.lane1 }

/-- Changing a lane's Lane Controller. -/
def State.modCtl (s : State) (l : LaneId) (f : LaneCtl → LaneCtl) : State :=
  s.modLane l fun x => { x with ctl := f x.ctl }

/-- Changing a lane's Station Port. -/
def State.modStation (s : State) (l : LaneId) (f : StationPort → StationPort) : State :=
  s.modLane l fun x => { x with station := f x.station }

/-- Changing a lane's Mask Checker. -/
def State.modChecker (s : State) (l : LaneId) (f : MaskChecker → MaskChecker) : State :=
  s.modLane l fun x => { x with checker := f x.checker }

/-- Changing a lane's Path Executor. -/
def State.modPath (s : State) (l : LaneId) (f : PathExec → PathExec) : State :=
  s.modLane l fun x => { x with path := f x.path }

/-- Changing a lane's Flow Metering. -/
def State.modMeter (s : State) (l : LaneId) (f : FlowMeter → FlowMeter) : State :=
  s.modLane l fun x => { x with meter := f x.meter }

/-- Changing the lane state alone. -/
def State.setLaneState (s : State) (l : LaneId) (x : LaneState) : State :=
  s.modCtl l fun c => { c with state := x }

/-- A lane's requester entry at the gate (R140). -/
def Gate.exit (g : Gate) (l : LaneId) : Option Waiting :=
  match l with
  | .lane0 => g.exit0
  | .lane1 => g.exit1

/-- Changing a lane's requester entry. -/
def Gate.setExit (g : Gate) (l : LaneId) (w : Option Waiting) : Gate :=
  match l with
  | .lane0 => { g with exit0 := w }
  | .lane1 => { g with exit1 := w }

/-! ### Events and notices -/

/-- The notices waiting in a transmit queue (R6). -/
def noticeCount (ps : PortState) : Nat := (ps.tx.filter (·.notice)).length

/-- The NOTICE frame of an occurrence (R10): KIND 0x70, TAG 0, LEN 12. -/
def noticeFrame (k : EventKind) (d : Detail) : Frame :=
  ⟨0x70#8, 0#8,
    [toByte (k.idx.val + 1), laneByte d.lane] ++ bytes32 d.serial ++ bytes16 d.code ++ bytes32 d.time.toNat⟩

/-- R6: a notice joins the tail, or is dropped when 16 notices are already in the queue. -/
def queueNotice (f : Frame) (ps : PortState) : PortState :=
  if noticeCount ps < 16 then { ps with tx := ps.tx ++ [⟨true, f⟩] } else ps

/-- R9, R10: raising an event in one port's records. A clear flag rises with the detail and count 1, and
queues a notice when the mask holds the kind; a raised flag counts, saturating at 255, and keeps its detail. -/
def raiseIn (k : EventKind) (d : Detail) (ps : PortState) : PortState :=
  match ps.events[k.idx] with
  | none =>
    let up := { ps with events := ps.events.set k.idx (some ⟨d, 1⟩) }
    if ps.mask[k.idx] then queueNotice (noticeFrame k d) up else up
  | some r => { ps with events := ps.events.set k.idx (some { r with count := satAdd 255 r.count 1 }) }

/-- R9: an event of a kind other than LINK_ERROR is raised in the records of both ports. -/
def raise (k : EventKind) (lane : Option LaneId) (serial : Serial) (code : Nat) (s : State) : State :=
  let d : Detail := ⟨lane, serial, code, s.clock⟩
  { s with line := raiseIn k d s.line, bench := raiseIn k d s.bench }

/-- R2: a frame error counts on its port and raises LINK_ERROR there, with the cause as code. -/
def frameError (cause : Nat) (now : Time) (ps : PortState) : PortState :=
  raiseIn .linkError ⟨none, 0, cause, now⟩ { ps with frameErrors := satAdd 65535 ps.frameErrors 1 }

/-! ### Taking a command and replying -/

/-- What a command does: its status, the reply fields after the status, and the part's state. -/
structure Answer where
  status : Status
  data : List Byte
  st : State

/-- R4: a refusal leaves the state as it found it. -/
def refuse (status : Status) (s : State) : Answer := ⟨status, [], s⟩

/-- An OK reply with its fields. -/
def accept (data : List Byte) (s : State) : Answer := ⟨.ok, data, s⟩

/-- R5: the reply to a frame. Status alone unless OK or CLAMPED. -/
def replyFrame (f : Frame) (status : Status) (data : List Byte) : Frame :=
  ⟨f.kind + 0x80#8, f.tag,
    toByte (statusCode status) :: (if status = .ok ∨ status = .clamped then data else [])⟩

/-- R4: the port takes the head of its receive queue, and no reply waits in or is being sent from its
transmit queue. -/
def takeable (p : Port) (f : Frame) (s : State) : Bool :=
  (s.port p).rx.head? = some f && (s.port p).tx.all (·.notice)

/-- The event of taking frame `f` on port `p` (R4, R6): the frame leaves the receive queue, the command has
its effects, and its reply joins the transmit queue ahead of the notices those effects queued. A frame that
is not at the head, or whose port still owes a reply, is not taken, and nothing changes (log 4). -/
def takeCommand (p : Port) (f : Frame) (body : State → Answer) (s : State) : State :=
  if takeable p f s then
    let a := body (s.modPort p fun ps => { ps with rx := ps.rx.tail })
    let n := (s.port p).tx.length
    a.st.modPort p fun ps =>
      { ps with tx := ps.tx.take n ++ ⟨false, replyFrame f a.status a.data⟩ :: ps.tx.drop n }
  else s

/-! ### Board records -/

/-- The record of a serial, if there is one (R39). -/
def State.record? (s : State) (n : Serial) : Option BoardRecord := s.records.find? (·.serial == n)

/-- A lane's current board: the record whose location is LANE_n (R41). -/
def State.board (s : State) (l : LaneId) : Option BoardRecord := s.records.find? (·.location == .lane l)

/-- The serial of a lane's current board, 0 when it has none. -/
def State.boardSerial (s : State) (l : LaneId) : Serial := ((s.board l).map (·.serial)).getD 0

/-- Changing the record of a serial. -/
def State.modRecord (s : State) (n : Serial) (f : BoardRecord → BoardRecord) : State :=
  { s with records := s.records.map fun r => if r.serial = n then f r else r }

/-- Removing the record of a serial (R52). -/
def State.removeRecord (s : State) (n : Serial) : State :=
  { s with records := s.records.filter fun r => r.serial != n }

/-- Adding a reason to a record; one already there stays once (R45). -/
def BoardRecord.addReason (r : Reason) (b : BoardRecord) : BoardRecord :=
  { b with reasons := setInsert b.reasons r.idx }

/-- Adding a reason to the record of a serial. -/
def State.addReason (s : State) (n : Serial) (r : Reason) : State := s.modRecord n (BoardRecord.addReason r)

/-- R45: clearing the whole reason set, the attached sets included. -/
def BoardRecord.clearReasons (b : BoardRecord) : BoardRecord :=
  { b with
    reasons := emptySet 20, filmLow := emptySet 12, filmHigh := emptySet 12, maskCritical := emptySet 16 }

/-- The oven position of a board: its occupancy queue entry's (R44, R158). -/
def State.ovenPosition (s : State) (n : Serial) : Option Nat :=
  (s.oven.queue.find? (·.serial == n)).map (·.position)

/-! ### Recipes -/

/-- A recipe slot. -/
def State.recipe (s : State) (i : Fin 8) : RecipeSlot := s.store.slots[i]

/-- The MATERIAL section as the blocks read it. A record names a READY slot, so the section is marked; the
values for an unmarked section are read by no run (log 14). -/
def RecipeSlot.materialD (r : RecipeSlot) : Material := r.material.getD ⟨0, 0, 0⟩

/-- The areas of the AREAS section. -/
def RecipeSlot.areasD (r : RecipeSlot) : List AreaSpec := r.areas.getD []

/-- The classes of the FEATURES section; an unmarked one has a check-slot count of 0 (R22). -/
def RecipeSlot.featuresD (r : RecipeSlot) : List CheckClass := r.features.getD []

/-- The CURE section as the blocks read it (log 14). -/
def RecipeSlot.cureD (r : RecipeSlot) : Cure := r.cure.getD ⟨0, 0, 0, 0⟩

/-- The TIMING section as the blocks read it (log 14). -/
def RecipeSlot.timingD (r : RecipeSlot) : Timing := r.timing.getD ⟨0, 0, 0, 0, 0, .holdWet⟩

/-- The paths that name a slot (R33): OPEN or COMPLETE with it. -/
def pathNames (i : Fin 8) (pe : PathExec) : Bool := pe.state != .empty && pe.slot == some i

/-- The number of records naming a slot (R26). -/
def State.recordsNaming (s : State) (i : Fin 8) : Nat := (s.records.filter (·.slot == i)).length

/-- The number of paths naming a slot (R26). -/
def State.pathsNaming (s : State) (i : Fin 8) : Nat :=
  (if pathNames i s.lane0.path then 1 else 0) + (if pathNames i s.lane1.path then 1 else 0)

/-- R33: a slot is in use while a record or a path names it. -/
def State.slotInUse (s : State) (i : Fin 8) : Bool := 0 < s.recordsNaming i || 0 < s.pathsNaming i

/-- The store is CLEARING (R34). -/
def State.clearing (s : State) : Bool := s.store.clearTimer.isSome

/-- The slot an alias names (R29). -/
def aliasSlot (t : List (Nat × Fin 8)) (a : Nat) : Option (Fin 8) := (t.find? (·.1 == a)).map (·.2)

/-- R32: resolving an alias gives a READY slot, or the status the command is refused with. -/
def State.resolve (s : State) (a : Nat) : Except Status (Fin 8) :=
  match aliasSlot s.store.aliasTable a with
  | none => .error .notFound
  | some i => if (s.recipe i).state = .ready then .ok i else .error .wrongState

/-! ### Holds (R168 to R171) -/

/-- The free entries of the hold table (R168). -/
def State.freeEntries (s : State) : Nat := 16 - s.holds.length

/-- A coated board that is not cured is wet (R162, R169). -/
def BoardRecord.wet (b : BoardRecord) : Bool := b.coated && !b.cured

/-- A time reckoned `seconds` after the spray end time; an old one is taken as already reached in the event
that reckons it (R44), an absent one is reckoned from this event (R169). -/
def State.fromSprayEnd (s : State) (b : BoardRecord) (seconds : Nat) : Time :=
  match b.sprayEnd with
  | none => after s.clock (seconds * 1000)
  | some e => if e.old then s.clock else after e.time (seconds * 1000)

/-- The hold entry of a board (R168, R169). -/
def State.holdEntry (s : State) (b : BoardRecord) (loc : HoldLocation) : HoldEntry where
  serial := b.serial
  location := loc
  created := s.clock
  wet := b.wet
  deadline := if b.wet then some (s.fromSprayEnd b (s.recipe b.slot).timingD.wetHold) else none
  state := .pending

/-- R170: a granted hold. The entry joins the table, the record becomes HELD at HOLD and HOLD_CREATED is
raised. -/
def State.grantHold (s : State) (b : BoardRecord) (loc : HoldLocation) : State :=
  raise .holdCreated (some b.lane) b.serial loc.code
    ({ s with holds := s.holds ++ [s.holdEntry b loc] }.modRecord b.serial fun r =>
      { r with stage := .held, location := .hold })

/-- R171: a refused oven-class (code 1) or forced (code 2) hold removes the record. -/
def State.overflow (s : State) (b : BoardRecord) (code : Nat) : State :=
  raise .holdOverflow (some b.lane) b.serial code (s.removeRecord b.serial)

/-- R170, R171: an oven-class hold needs one free entry. -/
def State.ovenHold (s : State) (b : BoardRecord) (loc : HoldLocation) : State :=
  if 1 ≤ s.freeEntries then s.grantHold b loc else s.overflow b 1

/-- The entries left when a board's entry leaves the table; the ones behind keep their order (R168). -/
def State.removeHold (s : State) (n : Serial) : State :=
  { s with holds := s.holds.filter fun e => e.serial != n }

/-! ### The merge gate (R140, R144 to R147) -/

/-- The states of the return station (R142). -/
inductive StationState where
  | empty
  | awaiting
  | requesting
  | granted
  deriving DecidableEq, Repr

/-- R142: the state follows the board the station holds, the grant and the presence level. -/
def Gate.stationState (g : Gate) : StationState :=
  match g.station with
  | none => .empty
  | some _ =>
    if g.grant = some .returnStation then .granted
    else if g.presence then .requesting
    else .awaiting

/-- R140: a new entry; it is eligible from the event that makes it when its flash-ready time has been
reached, and its flash-ready timer starts in any case (R143). -/
def newWaiting (now : Time) (n : Serial) (flash : Time) (deadline : Option Time) : Waiting :=
  ⟨n, flash, deadline, reached now flash, true⟩

/-- R140: a lane board's entry. -/
def State.laneWaiting (s : State) (b : BoardRecord) : Waiting :=
  let t := (s.recipe b.slot).timingD
  newWaiting s.clock b.serial (s.fromSprayEnd b t.flashOff) (some (s.fromSprayEnd b t.maxOpen))

/-- R140: a return-station board's times. A board without a spray end time is ready at once and has no
deadline; a dry or cured one has no deadline. -/
def State.stationWaiting (s : State) (b : BoardRecord) : Waiting :=
  let t := (s.recipe b.slot).timingD
  match b.sprayEnd with
  | none => newWaiting s.clock b.serial s.clock none
  | some _ =>
    newWaiting s.clock b.serial (s.fromSprayEnd b t.flashOff)
      (if b.wet then some (s.fromSprayEnd b t.wetHold) else none)

/-- The position of the newest board in the oven (R144). -/
def Oven.tailPosition (o : Oven) : Option Nat := o.queue.getLast?.map (·.position)

/-- R144: the four conditions for the gate to be free. -/
def State.gateFree (s : State) : Bool :=
  s.gate.grant.isNone && s.gate.ovenAccept && s.oven.queue.length < 12 &&
    s.oven.tailPosition.all fun x => s.settings.entrySpacing * 1000 ≤ x

/-- R146: one entry's claim, if it is present and eligible: its remaining time, none without a deadline. -/
def claim (now : Time) (src : Source) (w : Option Waiting) : List (Source × Option Nat) :=
  match w with
  | some w => if w.eligible then [(src, w.deadline.map (remaining now))] else []
  | none => []

/-- The return station's entry is present while it is REQUESTING (R142). -/
def Gate.stationEntry (g : Gate) : Option Waiting :=
  if g.stationState = .requesting then g.station else none

/-- The eligible entries in the tie order of R146. -/
def State.claims (s : State) : List (Source × Option Nat) :=
  claim s.clock (.lane .lane0) s.gate.exit0 ++ claim s.clock (.lane .lane1) s.gate.exit1 ++
    claim s.clock .returnStation s.gate.stationEntry

/-- A strictly earlier remaining time; no deadline ranks after every set one (R146). -/
def earlier (a b : Option Nat) : Bool :=
  match a, b with
  | some x, some y => x < y
  | some _, none => true
  | none, _ => false

/-- R146: the claim with the earliest deadline; among equals the first. -/
def earliest (cs : List (Source × Option Nat)) : Option (Source × Option Nat) :=
  match cs with
  | [] => none
  | c :: rest =>
    match earliest rest with
    | none => some c
    | some d => if earlier d.2 c.2 then some d else some c

/-- R147: the grant to a source. -/
def State.grantTo (s : State) (src : Source) : State :=
  let granted := match src with
    | .lane l =>
      match s.gate.exit l with
      | none => s
      | some w =>
        ({ s with gate := s.gate.setExit l none }.modRecord w.serial fun r =>
          { r with stage := .transfer }).setLaneState l .transfer
    | .returnStation =>
      match s.gate.station with
      | none => s
      | some w =>
        { s with gate := { s.gate with station := some { w with flashTimer := false } } }.modRecord w.serial
          fun r => { r with stage := .transfer }
  { granted with
    gate := { granted.gate with
      grant := some src
      transferTimer := some (after s.clock s.settings.transferTimeout) } }

/-- R144, R146: in a re-evaluation a free gate grants the earliest eligible entry. -/
def State.reevaluate (s : State) : State :=
  if s.gateFree then
    match earliest s.claims with
    | some c => s.grantTo c.1
    | none => s
  else s

/-! ### A lane's states -/

/-- What the state a lane leaves for a hold lets go of (R64, R105): the gap timer, the cursor of a lane
leaving ARMED or SPRAYING, and the requester entry. -/
def State.letGo (s : State) (l : LaneId) : State :=
  let x := (s.lane l).ctl.state
  { s with gate := s.gate.setExit l none }.modPath l fun pe =>
    { pe with
      gapTimer := none
      cursor := if x = LaneState.armed ∨ x = LaneState.spraying then 1 else pe.cursor }

/-- R66: entry to EJECTING: the eject output follows the state, and the eject timer starts. -/
def State.enterEjecting (s : State) (l : LaneId) (subject : Option Serial) : State :=
  s.modCtl l fun c =>
    { c with
      state := .ejecting
      ejectSubject := subject
      ejectTimer := some (after s.clock (c.settings.ejectTimeout * 1000)) }

/-- R64, R170: a lane-class hold for the board of serial `n`, which needs three free entries. Granted, the
lane ejects the board; refused, the lane is BLOCKED with it and LANE_BLOCKED carries the free entries. -/
def State.laneHold (s : State) (l : LaneId) (n : Serial) : State :=
  match s.record? n with
  | none => s
  | some b =>
    let s1 := s.letGo l
    if 3 ≤ s.freeEntries then (s1.grantHold b (.lane l)).enterEjecting l (some n)
    else
      raise .laneBlocked (some l) n s.freeEntries
        ((s1.modRecord n fun r => { r with location := .lane l }).setLaneState l .blocked)

/-- R65, R172: the retry of one lane's standing request; a refused retry changes nothing. -/
def State.retryLane (s : State) (l : LaneId) : State :=
  if (s.lane l).ctl.state = .blocked ∧ 3 ≤ s.freeEntries then
    match s.board l with
    | none => s
    | some b => (s.grantHold b (.lane l)).enterEjecting l (some b.serial)
  else s

/-- R172: the retries after a hold entry was removed, Lane 0 first. -/
def State.retryBlocked (s : State) : State := (s.retryLane .lane0).retryLane .lane1

/-- R61 match at the head, R87: the lane enters CHECKING with the board, its verdicts return to UNREAD, the
check timer starts and the checker is ready. -/
def State.startCheck (s : State) (l : LaneId) (b : BoardRecord) : State :=
  ((s.modRecord b.serial fun r =>
      { r with stage := .checking, location := .lane l, verdicts := Vector.replicate 16 .unread }).setLaneState
    l .checking).modChecker l fun m =>
      { m with
        checkTimer := some (after s.clock ((s.recipe b.slot).timingD.inspectTimeout * 1000))
        paceTimer := none
        ready := true }

/-- Taking a serial's entry out of an announce queue; the entries behind move up (R58). -/
def State.leaveQueue (s : State) (l : LaneId) (n : Serial) : State :=
  s.modCtl l fun c => { c with queue := c.queue.filter fun e => e.serial != n }

/-- R61: an IDLE lane takes an ARRIVED: a match at the head starts the check, a match further down asks for a
hold with ARRIVAL_ORDER, and any other serial is a stray, ejected with no subject. -/
def State.takeArrived (s : State) (l : LaneId) (n : Serial) : State :=
  let q := (s.lane l).ctl.queue
  if q.any (·.serial == n) then
    match s.record? n with
    | none => s
    | some b =>
      if q.head?.map (·.serial) = some n then (s.leaveQueue l n).startCheck l b
      else ((s.leaveQueue l n).addReason n .arrivalOrder).laneHold l n
  else (raise .strayBoard (some l) n 1 s).enterEjecting l none

/-- R62, R82: the BOARD slot's waiting ARRIVED as the lane state has it: taken in IDLE, a stray of source 2 in
OFF, left waiting otherwise. -/
def State.serveArrived (s : State) (l : LaneId) : State :=
  match (s.lane l).station.boardSlot with
  | some (.arrived n) =>
    let freed := s.modStation l fun st => { st with boardSlot := none }
    match (s.lane l).ctl.state with
    | .idle => freed.takeArrived l n
    | .off => raise .strayBoard (some l) n 2 freed
    | _ => s
  | _ => s

/-- R60: the entry to IDLE, which is an entry to OFF for a lane with disable-pending. The eject subject becomes
none (R57), and a waiting ARRIVED is taken after the entry (R62). -/
def State.enterIdle (s : State) (l : LaneId) : State :=
  (s.modCtl l fun c =>
    { c with
      state := if c.disablePending then .off else .idle
      disablePending := false
      ejectSubject := none }).serveArrived l

end Sys2Proof.Machine
end

