-- ==== Sys2Proof/Machine/Boards.lean ====
section
/-!
DEFINITION. The Board Register's commands (chapter 03): ANNOUNCE, WITHDRAW, GET_BOARD, and the spray end time
becoming old.
-/

namespace Sys2Proof.Machine

open Sys2Proof

/-- R40: the record ANNOUNCE creates; its pass area set is every area of the recipe. -/
def newRecord (n : Serial) (i : Fin 8) (l : LaneId) (areaCount : Nat) : BoardRecord where
  serial := n
  slot := i
  lane := l
  stage := .announced
  location := .announceQueue
  passAreas := setOf 12 fun a => a.val < areaCount
  rework := 0
  verdicts := Vector.replicate 16 .unread
  tallies := Vector.replicate 12 0
  coated := false
  cured := false
  sprayEnd := none
  dose := 0
  drip := 0
  reasons := emptySet 20
  filmLow := emptySet 12
  filmHigh := emptySet 12
  maskCritical := emptySet 16

/-- R48: an entry joins the tail of a lane's announce queue. -/
def State.joinQueue (s : State) (l : LaneId) (e : QueueEntry) : State :=
  s.modCtl l fun c => { c with queue := c.queue ++ [e] }

/-- ANNOUNCE (R47, R48). -/
def announceAnswer (p : Port) (d : List Byte) (s : State) : Answer :=
  if p ≠ .line then refuse .wrongPort s
  else if d.length ≠ 7 then refuse .badLength s
  else
    match laneOf (byteAt d 0) with
    | none => refuse .badValue s
    | some l =>
      let n := word32At d 1
      let a := word16At d 5
      let c := (s.lane l).ctl
      if n = 0 ∨ a = 0 then refuse .badValue s
      else if s.clearing then refuse .busy s
      else if (s.record? n).isSome then refuse .inUse s
      else if 32 ≤ s.records.length then refuse .full s
      else
        match s.resolve a with
        | .error e => refuse e s
        | .ok i =>
          if c.state = .off then refuse .wrongState s
          else if c.serviceDue then refuse .service s
          else if 4 ≤ c.queue.length then refuse .full s
          else
            accept [toByte i.val, toByte (c.queue.length + 1)]
              ({ s with records := s.records ++ [newRecord n i l (s.recipe i).areasD.length] }.joinQueue l
                ⟨n, false⟩)

/-- ANNOUNCE. -/
def execAnnounce (p : Port) (t : Byte) (d : List Byte) (s : State) : Host.Outcome State Fault Refusal :=
  .next (takeCommand p ⟨0x40#8, t, d⟩ (announceAnswer p d) s)

/-- WITHDRAW (R50). A record of stage ANNOUNCED held by a BLOCKED lane at LANE_n is refused too. -/
def withdrawAnswer (p : Port) (d : List Byte) (s : State) : Answer :=
  if p ≠ .line then refuse .wrongPort s
  else if d.length ≠ 4 then refuse .badLength s
  else
    let n := word32At d 0
    if n = 0 then refuse .badValue s
    else
      match s.record? n with
      | none => refuse .notFound s
      | some b =>
        if b.stage = .announced ∧ b.location = .announceQueue then
          accept [toByte (laneNumber b.lane)] ((s.leaveQueue b.lane n).removeRecord n)
        else refuse .wrongState s

/-- WITHDRAW. -/
def execWithdraw (p : Port) (t : Byte) (d : List Byte) (s : State) : Host.Outcome State Fault Refusal :=
  .next (takeCommand p ⟨0x41#8, t, d⟩ (withdrawAnswer p d) s)

/-- An attached set is reported as empty when its reason is absent (R55). -/
def attachedWeight {n : Nat} (b : BoardRecord) (r : Reason) (v : FlagSet n) : Nat :=
  if b.reasons[r.idx] then setWeight v else 0

/-- The board record reply after the status byte (R54, R55, 3.7.1). -/
def State.boardBytes (s : State) (b : BoardRecord) : List Byte :=
  let pos := s.ovenPosition b.serial
  bytes32 b.serial ++
    [toByte b.slot.val, toByte (laneNumber b.lane), toByte b.stage.code, toByte b.location.code,
      toByte b.rework, flagByte b.coated, flagByte b.cured] ++
    bytes16 (setWeight b.passAreas) ++
    b.verdicts.toList.map (fun v => toByte v.code) ++
    b.tallies.toList.flatMap bytes32 ++
    bytes16 b.drip ++
    [flagByte b.sprayEnd.isSome] ++ bytes32 ((b.sprayEnd.map fun e => e.time.toNat).getD 0) ++
    bytes32 b.dose ++
    [flagByte pos.isSome] ++ bytes32 (pos.getD 0) ++
    bytes32 (setWeight b.reasons) ++
    bytes16 (attachedWeight b .filmLow b.filmLow) ++
    bytes16 (attachedWeight b .filmHigh b.filmHigh) ++
    bytes16 (attachedWeight b .maskCritical b.maskCritical)

/-- GET_BOARD (R54), on either port. -/
def getBoardAnswer (d : List Byte) (s : State) : Answer :=
  if d.length ≠ 4 then refuse .badLength s
  else if word32At d 0 = 0 then refuse .badValue s
  else
    match s.record? (word32At d 0) with
    | none => refuse .notFound s
    | some b => accept (s.boardBytes b) s

/-- GET_BOARD. -/
def execGetBoard (p : Port) (t : Byte) (d : List Byte) (s : State) : Host.Outcome State Fault Refusal :=
  .next (takeCommand p ⟨0x06#8, t, d⟩ (getBoardAnswer d) s)

/-- R44: 86 400 s have passed since the record's spray end time was set, and it is not old yet. -/
def sprayEndDue (now : Time) (b : BoardRecord) : Bool :=
  b.sprayEnd.any fun e => !e.old && 86400000 ≤ elapsed now e.time

/-- SPRAY_END_TIME_OLD (R44). -/
def execSprayEndTimeOld (n : Serial) (s : State) : Host.Outcome State Fault Refusal :=
  if (s.record? n).any (sprayEndDue s.clock) then
    .next (s.modRecord n fun b => { b with sprayEnd := b.sprayEnd.map fun e => { e with old := true } })
  else .next s

end Sys2Proof.Machine
end

