-- ==== Sys2Proof/Machine/Gate.lean ====
section
/-!
DEFINITION. The Entry Gate (chapter 09): its timers, the return station, the transfer, and OVEN_ACCEPT.
-/

namespace Sys2Proof.Machine

open Sys2Proof

/-! ### The return station (R142) -/

/-- R178, R142: a board comes to the return station with its times reckoned and its timers started. -/
def State.enterStation (s : State) (b : BoardRecord) : State :=
  { s with gate := { s.gate with station := some (s.stationWaiting b) } }

/-- R142: the return station lets its board go. -/
def State.emptyStation (s : State) : State := { s with gate := { s.gate with station := none } }

/-- R144: re-evaluation when an eligible entry of the return station is made. -/
def State.reevaluateStation (s : State) : State :=
  if s.gate.stationEntry.any (·.eligible) then s.reevaluate else s

/-- R142: the presence level changes. In AWAITING a rise makes the entry, eligible when its flash-ready time has
been reached, and the gate re-evaluates; in REQUESTING a fall removes the entry and the timers keep running. -/
def State.presenceChange (s : State) (level : Bool) : State :=
  let moved := { s with gate := { s.gate with
    presence := level
    station := s.gate.station.map fun w =>
      if s.gate.stationState = .awaiting then { w with eligible := w.eligible || reached s.clock w.flashReady }
      else w } }
  if s.gate.stationState = .awaiting ∧ level then moved.reevaluateStation else moved

/-- RETURN_PRESENCE_CHANGE (R142). A report of the level the input already has is no change. -/
def execReturnPresenceChange (level : Bool) (s : State) : Host.Outcome State Fault Refusal :=
  if s.gate.presence = level then .next s else .next (s.presenceChange level)

/-! ### Flash-ready and deadline timers (R143) -/

/-- The board the gate waits for at a source; a granted return station waits no longer (R147). -/
def Gate.waiting (g : Gate) (src : Source) : Option Waiting :=
  match src with
  | .lane l => g.exit l
  | .returnStation => if g.grant = some .returnStation then none else g.station

/-- Changing the board a source waits with. -/
def Gate.setWaiting (g : Gate) (src : Source) (w : Option Waiting) : Gate :=
  match src with
  | .lane l => g.setExit l w
  | .returnStation => { g with station := w }

/-- R143: the flash-ready timer of a waiting board is due. -/
def flashDue (now : Time) (w : Waiting) : Bool := w.flashTimer && reached now w.flashReady

/-- R143: the flash-ready expiry of the board `w` of a source: its entry becomes eligible and the gate
re-evaluates; for a return station in AWAITING, which has no entry, the expiry is noted. -/
def State.flashReady (s : State) (src : Source) (w : Waiting) : State :=
  let marked : State :=
    { s with gate := s.gate.setWaiting src (some { w with eligible := true, flashTimer := false }) }
  if src = .returnStation ∧ s.gate.stationState ≠ .requesting then marked else marked.reevaluate

/-- FLASH_READY_EXPIRY (R143). -/
def execFlashReadyExpiry (src : Source) (s : State) : Host.Outcome State Fault Refusal :=
  match s.gate.waiting src with
  | none => .next s
  | some w => if flashDue s.clock w then .next (s.flashReady src w) else .next s

/-- LANE_DEADLINE_EXPIRY (R143): OPEN_TIME, the entry removed, a lane-class hold requested. -/
def execLaneDeadlineExpiry (l : LaneId) (s : State) : Host.Outcome State Fault Refusal :=
  match s.gate.exit l with
  | none => .next s
  | some w =>
    if timerDue s.clock w.deadline then
      .next (({ s with gate := s.gate.setExit l none }.addReason w.serial .openTime).laneHold l w.serial)
    else .next s

/-- R143, R149: an oven-class hold at the return station for its board, with a reason; the station enters EMPTY
whether the hold is granted or refused. -/
def State.stationFails (s : State) (n : Serial) (r : Reason) : State :=
  match (s.addReason n r).record? n with
  | none => s.emptyStation
  | some b => ((s.addReason n r).ovenHold b .returnStation).emptyStation

/-- RETURN_DEADLINE_EXPIRY (R143). -/
def execReturnDeadlineExpiry (s : State) : Host.Outcome State Fault Refusal :=
  match s.gate.waiting .returnStation with
  | none => .next s
  | some w =>
    if timerDue s.clock w.deadline then .next (s.stationFails w.serial .wetExpired) else .next s

/-! ### The transfer (R148 to R150) -/

/-- The grant ends: none, with the transfer timer stopped; the gate release follows the grant. -/
def State.endGrant (s : State) : State :=
  { s with gate := { s.gate with grant := none, transferTimer := none } }

/-- The board under a source's grant: the lane's current board, or the return station's. -/
def State.grantedSerial (s : State) (src : Source) : Option Serial :=
  match src with
  | .lane l => (s.board l).map (·.serial)
  | .returnStation => s.gate.station.map (·.serial)

/-- R148, R158: the granted board joins the tail of the occupancy queue at position 0, CURING at OVEN. -/
def State.enterOven (s : State) (n : Serial) : State :=
  let joined : State := { s with oven := { s.oven with queue := s.oven.queue ++ [⟨n, 0⟩] } }
  joined.modRecord n fun r => { r with stage := .curing, location := .oven }

/-- R148: the source lets its board go: a lane enters IDLE, or OFF, and takes a waiting ARRIVED; the return
station enters EMPTY. -/
def State.freeSource (s : State) (src : Source) : State :=
  match src with
  | .lane l => s.enterIdle l
  | .returnStation => s.emptyStation

/-- OVEN_ENTRY_EVENT (R148, R150). -/
def execOvenEntryEvent (s : State) : Host.Outcome State Fault Refusal :=
  match s.gate.grant with
  | none => .next (raise .strayBoard none 0 4 s)
  | some src =>
    let entered := match s.grantedSerial src with
      | some n => s.endGrant.enterOven n
      | none => s.endGrant
    .next (entered.freeSource src).reevaluate

/-- R149: the transfer timeout of a granted source. -/
def State.transferFails (s : State) (src : Source) : State :=
  match s.grantedSerial src with
  | none => s.endGrant
  | some n =>
    match src with
    | .lane l => (s.endGrant.addReason n .transferFault).laneHold l n
    | .returnStation => s.endGrant.stationFails n .transferFault

/-- TRANSFER_TIMER_EXPIRY (R149). -/
def execTransferTimerExpiry (s : State) : Host.Outcome State Fault Refusal :=
  if timerDue s.clock s.gate.transferTimer then
    match s.gate.grant with
    | none => .next s.endGrant
    | some src => .next (s.transferFails src).reevaluate
  else .next s

/-! ### OVEN_ACCEPT (R145) -/

/-- OVEN_ACCEPT. -/
def ovenAcceptAnswer (p : Port) (d : List Byte) (s : State) : Answer :=
  if p ≠ .line then refuse .wrongPort s
  else if d.length ≠ 1 then refuse .badLength s
  else
    match onOffOf (byteAt d 0) with
    | none => refuse .badValue s
    | some on =>
      if s.oven.layout.isNone then refuse .wrongState s
      else
        let s1 := { s with gate := { s.gate with ovenAccept := on } }
        accept [flagByte s.gate.ovenAccept] (if on ∧ s.gate.ovenAccept = false then s1.reevaluate else s1)

/-- OVEN_ACCEPT. -/
def execOvenAccept (p : Port) (t : Byte) (d : List Byte) (s : State) : Host.Outcome State Fault Refusal :=
  .next (takeCommand p ⟨0x13#8, t, d⟩ (ovenAcceptAnswer p d) s)

end Sys2Proof.Machine
end

