-- ==== Sys2Proof/Machine/Holds.lean ====
section
/-!
DEFINITION. The Hold Manager (chapter 11): DISPOSE, LIST_HOLDS and escalation.
-/

namespace Sys2Proof.Machine

open Sys2Proof

/-! ### DISPOSE (R174 to R178) -/

/-- An action code (R174). -/
def actionOf (b : Byte) : Option Action :=
  if b = 0#8 then some .release
  else if b = 1#8 then some .scrap
  else if b = 2#8 then some .respray
  else if b = 3#8 then some .recure
  else none

/-- R174: the length checks, the first failure giving the status; and the action. -/
def disposeLength (d : List Byte) : Except Status Action :=
  if d.length < 5 then .error .badLength
  else
    match actionOf (byteAt d 4) with
    | none => .error .badValue
    | some .respray =>
      if d.length < 7 then .error .badLength
      else if 12 < (byteAt d 6).toNat then .error .badValue
      else if d.length ≠ 7 + (byteAt d 6).toNat then .error .badLength
      else .ok .respray
    | some a => if d.length ≠ 5 then .error .badLength else .ok a

/-- The areas of a RESPRAY (R174): each below 12. -/
def resprayAreas (d : List Byte) : Option (List (Fin 12)) := (d.drop 7).mapM (finOf 12)

/-- The hold entry of a board (R168). -/
def State.hold? (s : State) (n : Serial) : Option HoldEntry := s.holds.find? (·.serial == n)

/-- R174 conditions 1 to 5, in order: the record the action is for, or the status it is refused with. -/
def State.disposable (s : State) (a : Action) (n : Serial) : Except Status BoardRecord :=
  match s.record? n with
  | none => .error .notFound
  | some b =>
    if b.stage ≠ .held then .error .wrongState
    else if (s.hold? n).any (·.state = .escalated) ∧ a ≠ .scrap then .error .notAllowed
    else if !actionAllowed a b.reasons then .error .notAllowed
    else if (a = .respray ∨ a = .recure) ∧ 2 ≤ b.rework then .error .limit
    else .ok b

/-- R176: an accepted RELEASE or SCRAP. -/
def State.disposeOut (s : State) (k : EventKind) (b : BoardRecord) : State :=
  (raise k (some b.lane) b.serial b.rework ((s.removeHold b.serial).removeRecord b.serial)).retryBlocked

/-- R177: an accepted RESPRAY to a lane over a set of areas. -/
def State.disposeRespray (s : State) (b : BoardRecord) (l : LaneId) (areas : FlagSet 12) : State :=
  (((s.removeHold b.serial).modRecord b.serial fun r =>
    { r.clearReasons with
      rework := r.rework + 1, passAreas := areas, lane := l
      stage := .reworkPending, location := .announceQueue }).joinQueue l ⟨b.serial, true⟩).retryBlocked

/-- R178: an accepted RECURE. The station's entry may be granted in this event (R144); the retries come last
(R172). -/
def State.disposeRecure (s : State) (b : BoardRecord) : State :=
  ((((s.removeHold b.serial).modRecord b.serial fun r =>
    { r.clearReasons with
      rework := r.rework + 1, stage := .flashing, location := .returnStation }).enterStation
    b).reevaluateStation).retryBlocked

/-- R177's own conditions and effect. -/
def resprayAnswer (b : BoardRecord) (l : LaneId) (areas : List (Fin 12)) (s : State) : Answer :=
  let c := (s.lane l).ctl
  if ¬ areas.all (fun a => a.val < (s.recipe b.slot).areasD.length) then refuse .badValue s
  else if c.state = .off then refuse .wrongState s
  else if c.serviceDue then refuse .service s
  else if 4 ≤ c.queue.length then refuse .full s
  else accept [toByte (b.rework + 1)] (s.disposeRespray b l (setOf 12 fun a => areas.contains a))

/-- DISPOSE (R174 to R178), on the Bench Port, and on the Line Port with remote disposition on (R7). -/
def disposeAnswer (p : Port) (d : List Byte) (s : State) : Answer :=
  if p = .line ∧ s.settings.remoteDisposition = false then refuse .wrongPort s
  else
    match disposeLength d with
    | .error e => refuse e s
    | .ok a =>
      let n := word32At d 0
      let target := if a = .respray then
          (laneOf (byteAt d 5)).bind fun l => (resprayAreas d).map fun x => (l, x)
        else some (.lane0, [])
      match target with
      | none => refuse .badValue s
      | some (l, areas) =>
        if n = 0 then refuse .badValue s
        else
          match s.disposable a n with
          | .error e => refuse e s
          | .ok b =>
            match a with
            | .release => accept [toByte b.rework] (s.disposeOut .boardReleased b)
            | .scrap => accept [toByte b.rework] (s.disposeOut .boardScrapped b)
            | .respray => resprayAnswer b l areas s
            | .recure =>
              if s.gate.station.isSome then refuse .busy s
              else accept [toByte (b.rework + 1)] (s.disposeRecure b)

/-- DISPOSE RELEASE (R176), and a DISPOSE that names no action (log 5). -/
def execDisposeRelease (p : Port) (t : Byte) (d : List Byte) (s : State) : Host.Outcome State Fault Refusal :=
  .next (takeCommand p ⟨0x60#8, t, d⟩ (disposeAnswer p d) s)

/-- DISPOSE SCRAP (R176). -/
def execDisposeScrap (p : Port) (t : Byte) (d : List Byte) (s : State) : Host.Outcome State Fault Refusal :=
  .next (takeCommand p ⟨0x60#8, t, d⟩ (disposeAnswer p d) s)

/-- DISPOSE RESPRAY (R177). -/
def execDisposeRespray (p : Port) (t : Byte) (d : List Byte) (s : State) : Host.Outcome State Fault Refusal :=
  .next (takeCommand p ⟨0x60#8, t, d⟩ (disposeAnswer p d) s)

/-- DISPOSE RECURE (R178). -/
def execDisposeRecure (p : Port) (t : Byte) (d : List Byte) (s : State) : Host.Outcome State Fault Refusal :=
  .next (takeCommand p ⟨0x60#8, t, d⟩ (disposeAnswer p d) s)

/-! ### LIST_HOLDS (R180) -/

/-- R180: the counts of one lane: four overrun counts, the late-reading and the unmapped-reading count. -/
def laneCountBytes (x : Lane) : List Byte :=
  [toByte x.station.startOverruns, toByte x.station.endOverruns, toByte x.station.inspectOverruns,
    toByte x.station.boardOverruns] ++
    bytes16 x.checker.lateCount ++ bytes16 x.checker.unmappedCount

/-- R180: one hold entry with its time to escalation. -/
def holdBytes (now : Time) (e : HoldEntry) : List Byte :=
  bytes32 e.serial ++ [toByte e.location.code, toByte e.state.code, flagByte e.wet] ++
    bytes32 ((e.deadline.map (remaining now)).getD 0)

/-- LIST_HOLDS (R180), on either port. -/
def listHoldsAnswer (d : List Byte) (s : State) : Answer :=
  if d.length ≠ 0 then refuse .badLength s
  else
    accept ([toByte s.holds.length] ++ bytes16 s.lane0.meter.idleDrip ++ bytes16 s.lane1.meter.idleDrip ++
      laneCountBytes s.lane0 ++ laneCountBytes s.lane1 ++ s.holds.flatMap (holdBytes s.clock)) s

/-- LIST_HOLDS. -/
def execListHolds (p : Port) (t : Byte) (d : List Byte) (s : State) : Host.Outcome State Fault Refusal :=
  .next (takeCommand p ⟨0x07#8, t, d⟩ (listHoldsAnswer d) s)

/-! ### Escalation (R173) -/

/-- R173: a PENDING entry whose deadline has been reached. -/
def escalationDue (now : Time) (e : HoldEntry) : Bool :=
  decide (e.state = .pending) && timerDue now e.deadline

/-- R173: the hold of a serial escalates. -/
def State.escalate (s : State) (n : Serial) (e : HoldEntry) (lane : LaneId) : State :=
  let marked : State := { s with
    holds := s.holds.map fun x => if x.serial = n then { x with state := .escalated, deadline := none } else x }
  raise .holdEscalated (some lane) n e.location.code (marked.addReason n .wetExpired)

/-- ESCALATION_DEADLINE_EXPIRY (R173). -/
def execEscalationDeadlineExpiry (n : Serial) (s : State) : Host.Outcome State Fault Refusal :=
  match s.hold? n, s.record? n with
  | some e, some b => if escalationDue s.clock e then .next (s.escalate n e b.lane) else .next s
  | _, _ => .next s

end Sys2Proof.Machine
end

