-- ==== Sys2Proof/Machine/Cure.lean ====
section
/-!
DEFINITION. The Cure Tracker (chapter 10): the layout, the Oven Sensor Line and the zone table, the encoder, the
dose tick, and the oven exit.
-/

namespace Sys2Proof.Machine

open Sys2Proof

/-! ### The layout (R153, R154) -/

/-- The total oven length in mm (R153). -/
def Layout.total (y : Layout) : Nat := y.lengths.sum

/-- The zone count of the layout, 0 while none is set. -/
def Oven.zoneCount (o : Oven) : Nat := (o.layout.map (·.lengths.length)).getD 0

/-- R154: the zone of a position given the lengths from zone `i` on, which starts at `start` µm. -/
def zoneFrom (lengths : List Nat) (i start pos : Nat) : Nat :=
  match lengths with
  | [] => i - 1
  | len :: rest => if pos < start + len * 1000 then i else zoneFrom rest (i + 1) (start + len * 1000) pos

/-- R154: the zone whose range holds a position; beyond the end it is the last zone. -/
def Layout.zoneOf (y : Layout) (pos : Nat) : Nat := zoneFrom y.lengths 0 0 pos

/-! ### Staleness (R157) -/

/-- R157: a zone below the zone count whose stale flag is clear has reached the limit. -/
def State.staleDue (s : State) (z : Fin 6) : Bool :=
  decide (z.val < s.oven.zoneCount) && !s.oven.zones[z].stale &&
    decide (s.settings.zoneStaleLimit ≤ s.oven.zones[z].age)

/-- R157: a zone becomes stale: the flag is set and ZONE_STALE raised with the zone as code. -/
def State.makeStale (s : State) (z : Fin 6) : State :=
  raise .zoneStale none 0 z.val
    { s with oven := { s.oven with zones := s.oven.zones.set z { s.oven.zones[z] with stale := true } } }

/-- R14, R157: all zones judged in one event, in zone order. -/
def State.judgeZones (s : State) (zs : List (Fin 6)) : State :=
  match zs with
  | [] => s
  | z :: rest => (if s.staleDue z then s.makeStale z else s).judgeZones rest

/-- ZONE_STALE_EXPIRY (R157). -/
def execZoneStaleExpiry (z : Fin 6) (s : State) : Host.Outcome State Fault Refusal :=
  if s.staleDue z then .next (s.makeStale z) else .next s

/-- The zone lengths of a SET_OVEN_LAYOUT payload. -/
def layoutOf (d : List Byte) : Layout :=
  ⟨word16At d 1, (List.range (byteAt d 0).toNat).map fun i => word16At d (3 + 2 * i)⟩

/-- SET_OVEN_LAYOUT (R153). -/
def setOvenLayoutAnswer (p : Port) (d : List Byte) (s : State) : Answer :=
  let k := (byteAt d 0).toNat
  let y := layoutOf d
  if p ≠ .line then refuse .wrongPort s
  else if d.length % 2 = 0 ∨ d.length < 5 ∨ 15 < d.length then refuse .badLength s
  else if k < 1 ∨ 6 < k then refuse .badValue s
  else if d.length ≠ 3 + 2 * k then refuse .badLength s
  else if y.pitch = 0 ∨ ¬ y.lengths.all (fun x => 100 ≤ x && x ≤ 20000) then refuse .badValue s
  else if s.oven.queue ≠ [] ∨ s.gate.grant.isSome then refuse .inUse s
  else
    accept (bytes32 y.total)
      (State.judgeZones { s with oven := { s.oven with layout := some y } } (List.finRange 6))

/-- SET_OVEN_LAYOUT. -/
def execSetOvenLayout (p : Port) (t : Byte) (d : List Byte) (s : State) : Host.Outcome State Fault Refusal :=
  .next (takeCommand p ⟨0x12#8, t, d⟩ (setOvenLayoutAnswer p d) s)

/-! ### The Oven Sensor Line (R155, R156) -/

/-- R155: a record's temperature must lie in −500 to 4 000 tenths. -/
def sensorTempOk (v : Int) : Bool := -500 ≤ v && v ≤ 4000

/-- R155, R156: a complete record of five bytes judged against the layout. -/
def State.judgeSensor (s : State) (d : List Byte) : State :=
  match finOf 6 (byteAt d 1) with
  | none => s
  | some z =>
    if sensorCheck d = byteAt d 4 ∧ z.val < s.oven.zoneCount ∧ sensorTempOk (int16At d 2) then
      { s with oven := { s.oven with
        zones := s.oven.zones.set z ⟨some (int16At d 2), some s.clock, false, 0⟩ } }
    else s

/-- R155: the receiver waits for the marker. -/
def State.sensorWaiting (s : State) : State :=
  { s with oven := { s.oven with sensorBytes := [], sensorGap := none } }

/-- R155: a byte on the Oven Sensor Line. -/
def State.sensorByte (s : State) (b : Byte) (stop : Bool) : State :=
  let got := s.oven.sensorBytes
  if !stop then s.sensorWaiting
  else if got = [] ∧ b ≠ 0x3C#8 then s
  else if got.length < 4 then
    { s with oven := { s.oven with sensorBytes := got ++ [b], sensorGap := some (after s.clock 2) } }
  else s.sensorWaiting.judgeSensor (got ++ [b])

/-- OVEN_SENSOR_BYTE_RECEIVED (R155). -/
def execOvenSensorByteReceived (b : Byte) (stop : Bool) (s : State) : Host.Outcome State Fault Refusal :=
  .next (s.sensorByte b stop)

/-- OVEN_SENSOR_RECORD (R155): the byte that completes a record. -/
def execOvenSensorRecord (b : Byte) (s : State) : Host.Outcome State Fault Refusal :=
  .next (s.sensorByte b true)

/-- OVEN_SENSOR_GAP_EXPIRY (R155): the partial record is abandoned, changing and raising nothing. -/
def execOvenSensorGapExpiry (s : State) : Host.Outcome State Fault Refusal :=
  if timerDue s.clock s.oven.sensorGap then .next s.sensorWaiting else .next s

/-! ### The encoder (R159) -/

/-- R159: the pitch added to every position, saturating. -/
def Oven.advance (o : Oven) (pitch : Nat) : Oven :=
  { o with queue := o.queue.map fun e => { e with position := satAdd (2 ^ 32 - 1) e.position pitch } }

/-- R144: the pulse takes the tail from below the entry spacing to at or above it. -/
def crossesSpacing (spacing : Nat) (before now : Option Nat) : Bool :=
  before.any (fun x => x < spacing * 1000) && now.any (fun x => spacing * 1000 ≤ x)

/-- ENCODER_PULSE (R159). -/
def execEncoderPulse (s : State) : Host.Outcome State Fault Refusal :=
  match s.oven.layout with
  | none => .next s
  | some y =>
    let moved : State := { s with oven := s.oven.advance y.pitch }
    if crossesSpacing s.settings.entrySpacing s.oven.tailPosition moved.oven.tailPosition then
      .next moved.reevaluate
    else .next moved

/-! ### The dose tick (R160 to R162) -/

/-- The factor table of R161. -/
def doseFactor (k : Nat) : Nat := [1000, 1072, 1149, 1231, 1320, 1414, 1516, 1625, 1741, 1866].getD k 0

/-- R161 steps 3 to 7: the increment for a difference `d` from the reference temperature. -/
def doseIncrement (d : Int) : Nat :=
  if d < -400 then 0
  else
    let c := min d 300
    let n := c / 100
    let m := doseFactor ((c % 100) / 10).toNat
    if 0 ≤ n then m * 2 ^ n.toNat else m / 2 ^ (-n).toNat

/-- R162: the target dose. -/
def Cure.target (c : Cure) : Nat := c.targetMinutes * 60000

/-- R162: the over-cure limit. -/
def Cure.overLimit (c : Cure) : Nat := 600 * c.targetMinutes * c.overCure

/-- R162: the cured flag is turned on when the dose reaches the target, and stays on. -/
def judgeCured (c : Cure) (b : BoardRecord) : BoardRecord :=
  { b with cured := b.cured || decide (c.target ≤ b.dose) }

/-- R160 to R162: one tick of one board, with the temperature of its zone if the zone is usable. -/
def doseBoard (c : Cure) (temp : Option Int) (b : BoardRecord) : BoardRecord :=
  match temp with
  | none => judgeCured c (b.addReason .tempStale)
  | some t =>
    let d := t - c.refTemp
    let hot := if (c.overheatMargin : Int) < d then b.addReason .overheat else b
    judgeCured c { hot with dose := satAdd (2 ^ 32 - 1) hot.dose (doseIncrement d) }

/-- R156: the temperature of the zone of a position, if the zone is usable. -/
def Oven.usableTemp (o : Oven) (pos : Nat) : Option Int :=
  match o.layout with
  | none => none
  | some y =>
    if h : y.zoneOf pos < 6 then
      if o.zones[y.zoneOf pos].stale then none else o.zones[y.zoneOf pos].temp
    else none

/-- R160: the boards of the occupancy queue, dosed once each. -/
def State.doseAll (s : State) (es : List OvenEntry) : State :=
  match es with
  | [] => s
  | e :: rest =>
    (s.modRecord e.serial fun b => doseBoard (s.recipe b.slot).cureD (s.oven.usableTemp e.position) b).doseAll
      rest

/-- R160: the dose tick timer's next expiry falls 1 000 ms after this one. -/
def State.restartDose (s : State) : State :=
  { s with oven := { s.oven with doseNext := after s.oven.doseNext 1000 } }

/-- DOSE_TICK (R160). -/
def execDoseTick (s : State) : Host.Outcome State Fault Refusal :=
  if reached s.clock s.oven.doseNext then .next (s.restartDose.doseAll s.oven.queue) else .next s

/-! ### The oven exit (R163, R164) -/

/-- R163: the exit threshold in µm, 0 when the exit window is not less than the total length. -/
def State.exitThreshold (s : State) : Nat :=
  (((s.oven.layout.map Layout.total).getD 0) - s.settings.exitWindow) * 1000

/-- R164 steps 1 and 2: UNDERCURE and OVERCURE. -/
def judgeDose (c : Cure) (b : BoardRecord) : BoardRecord :=
  let b1 := if b.dose < c.target then b.addReason .undercure else b
  if c.overLimit < b.dose then b1.addReason .overcure else b1

/-- R164: the judgement of a board popped at a matched exit. -/
def State.judgeExit (s : State) (b : BoardRecord) : State :=
  let judged := judgeDose (s.recipe b.slot).cureD b
  if setAny judged.reasons then (s.modRecord b.serial fun _ => judged).ovenHold judged .exitRack
  else raise .boardFinished (some b.lane) b.serial b.rework (s.removeRecord b.serial)

/-- R163: the head entry leaves the queue and its board is judged. -/
def State.popHead (s : State) (e : OvenEntry) (rest : List OvenEntry) : State :=
  let popped : State := { s with oven := { s.oven with queue := rest } }
  match popped.record? e.serial with
  | none => popped
  | some b => popped.judgeExit b

/-- OVEN_EXIT_EVENT (R163): a matched exit pops the head, and the gate re-evaluates; any other is a stray. -/
def execOvenExitEvent (s : State) : Host.Outcome State Fault Refusal :=
  match s.oven.queue with
  | [] => .next (raise .strayBoard none 0 5 s)
  | e :: rest =>
    if e.position < s.exitThreshold then .next (raise .strayBoard none 0 5 s)
    else .next (s.popHead e rest).reevaluate

end Sys2Proof.Machine
end

