-- ==== Sys2Proof/Machine/Metering.lean ====
section
/-!
DEFINITION. Flow Metering (chapter 08): pulses, drip, segment completion, film judgement and the hold policy.
-/

namespace Sys2Proof.Machine

open Sys2Proof

/-! ### Nozzle service (R69) -/

/-- R69: the counter rises by 1, and reaching the service limit with the flag clear sets SERVICE_DUE and
raises its event with the counter as code. -/
def State.countDeviation (s : State) (l : LaneId) : State :=
  let c := (s.lane l).ctl
  let n := satAdd 65535 c.nozzleCount 1
  if c.settings.nozzleLimit ≤ n ∧ c.serviceDue = false then
    raise .serviceDue (some l) 0 n (s.modCtl l fun c => { c with nozzleCount := n, serviceDue := true })
  else s.modCtl l fun c => { c with nozzleCount := n }

/-! ### Segment completion (R130 to R133) -/

/-- R130 step 1: the wet volume of `p` pulses, in nL. -/
def wetVolume (m : Material) (p : Nat) : Nat := p * m.pulseVolume

/-- R130 step 2: the dry volume, in nL. -/
def dryVolume (m : Material) (p : Nat) : Nat := wetVolume m p * m.solids / 1000

/-- R132: the segment deviates when its expected volume is above 0 and the difference exceeds the tolerance. -/
def deviates (m : Material) (seg : Segment) (p t : Nat) : Bool :=
  let ve : Int := seg.flow * t
  let vw : Int := wetVolume m p
  0 < ve && (m.flowTolerance : Int) * ve < |vw - ve| * 100

/-- R130 to R133: a completion handed to Flow Metering with `p` pulses and `t` ms of actual open time: the
tally, then the deviation test and its consequences. -/
def State.handOver (s : State) (l : LaneId) (seg : Segment) (p t : Nat) : State :=
  match s.board l with
  | none => s
  | some b =>
    let m := (s.recipe b.slot).materialD
    let tallied := s.modRecord b.serial fun r =>
      { r with tallies := r.tallies.set seg.area (satAdd (2 ^ 32 - 1) r.tallies[seg.area] (dryVolume m p)) }
    if deviates m seg p t then (tallied.addReason b.serial .flowDeviation).countDeviation l else tallied

/-- MISSED and DRY segments are handed over with no pulses and no open time (R113, R118). -/
def State.handOverAll (s : State) (l : LaneId) (segs : List Segment) : State :=
  match segs with
  | [] => s
  | seg :: rest => (s.handOver l seg 0 0).handOverAll l rest

/-! ### Film judgement and hold policy (R134 to R136) -/

/-- R134: the film of an area in tenths of a µm, rounded half up, saturating at 65 535. -/
def film (tally area : Nat) : Nat := min 65535 ((20 * tally + area) / (2 * area))

/-- R134: the areas of the pass area set that a test on (film, window) finds out. -/
def judgedAreas (specs : List AreaSpec) (b : BoardRecord) (test : Nat → AreaSpec → Bool) : FlagSet 12 :=
  setOf 12 fun a =>
    match specs[a.val]? with
    | none => false
    | some x => b.passAreas[a] && test (film b.tallies[a] x.area) x

/-- R134, R135: FILM_LOW and FILM_HIGH with the areas found low and high joining their attached sets. -/
def judgeFilm (specs : List AreaSpec) (b : BoardRecord) : BoardRecord :=
  let low := judgedAreas specs b fun f x => f < x.filmMin
  let high := judgedAreas specs b fun f x => x.filmMax < f
  let b1 := if setAny low then { b.addReason .filmLow with filmLow := setUnion b.filmLow low } else b
  if setAny high then { b1.addReason .filmHigh with filmHigh := setUnion b.filmHigh high } else b1

/-- R136, R141: the lane enters EXIT_WAIT, the record becomes FLASHING and the lane becomes a requester. -/
def State.enterExitWait (s : State) (l : LaneId) (b : BoardRecord) : State :=
  let flashing := (s.modRecord b.serial fun r => { r with stage := .flashing }).setLaneState l .exitWait
  { flashing with gate := flashing.gate.setExit l (some (s.laneWaiting b)) }

/-- R134 to R136: the film judgement and the hold policy at the end of a pass. -/
def State.judgePass (s : State) (l : LaneId) (n : Serial) : State :=
  match s.record? n with
  | none => s
  | some b =>
    let r := s.recipe b.slot
    let judged := judgeFilm r.areasD b
    let s1 := s.modRecord n fun _ => judged
    if hasSprayReason judged.reasons ∧ r.timingD.policy = .holdWet then s1.laneHold l n
    else s1.enterExitWait l judged

/-! ### Pulses (R124, R127, R128) -/

/-- R127: a pulse charged to a board; above the drip limit DRIP is added. -/
def dripOn (limit : Nat) (b : BoardRecord) : BoardRecord :=
  let n := satAdd 65535 b.drip 1
  let b1 := { b with drip := n }
  if limit < n then b1.addReason .drip else b1

/-- R127: a pulse charged to the lane's current board. -/
def State.boardDrip (s : State) (l : LaneId) : State :=
  match s.board l with
  | none => s
  | some b => s.modRecord b.serial (dripOn (s.recipe b.slot).timingD.dripLimit)

/-- R128: a pulse charged to the lane. -/
def State.idleDrip (s : State) (l : LaneId) : State :=
  s.modMeter l fun m => { m with idleDrip := satAdd 65535 m.idleDrip 1 }

/-- R126: a pulse counted to the executing segment. -/
def State.segmentPulse (s : State) (l : LaneId) : State :=
  s.modMeter l fun m => { m with segPulses := satAdd 65535 m.segPulses 1 }

/-- R124: FLOW_PULSE. -/
def State.flowPulse (s : State) (l : LaneId) : State :=
  match (s.lane l).ctl.state, (s.lane l).path.seq with
  | .spraying, .opened => s.segmentPulse l
  | .spraying, .closing => s.segmentPulse l
  | .spraying, _ => s.boardDrip l
  | .checking, _ => s.boardDrip l
  | .armed, _ => s.boardDrip l
  | .exitWait, _ => s.boardDrip l
  | _, _ => s.idleDrip l

/-- FLOW_PULSE (R124). -/
def execFlowPulse (l : LaneId) (s : State) : Host.Outcome State Fault Refusal := .next (s.flowPulse l)

end Sys2Proof.Machine
end

