-- ==== Sys2Proof/Machine/Path.lean ====
section
/-!
DEFINITION. The Path Executor (chapter 07): path commands, the segment queue, strobe acceptance, the valve
sequencer, the segment gap limit, spray end and replay.
-/

namespace Sys2Proof.Machine

open Sys2Proof

/-! ### The path (R101, R102) -/

/-- The loaded segment of a number (R102). -/
def PathExec.segment? (pe : PathExec) (k : Nat) : Option Segment := pe.queue.find? (·.number == k)

/-- The unexecuted count (R102). -/
def PathExec.unexecuted (pe : PathExec) : Nat := (pe.queue.filter fun x => pe.cursor ≤ x.number).length

/-- The number of the last loaded record, 0 when the queue is empty. -/
def PathExec.lastLoaded (pe : PathExec) : Nat := (pe.queue.getLast?.map (·.number)).getD 0

/-- The path becoming EMPTY: no slot, no n, keep off, an empty queue, cursor 1 (R109, R119). -/
def PathExec.emptied (pe : PathExec) : PathExec :=
  { pe with state := .empty, slot := none, keep := false, queue := [], last := none, cursor := 1 }

/-- The lane's timings for a valve (R68). -/
def LaneSettings.onDelay (c : LaneSettings) (v : Valve) : Nat :=
  match v with
  | .bead => c.onDelayBead
  | .atomize => c.onDelayAtomize

/-- The close lead of a valve (R68). -/
def LaneSettings.closeLead (c : LaneSettings) (v : Valve) : Nat :=
  match v with
  | .bead => c.closeLeadBead
  | .atomize => c.closeLeadAtomize

/-- The close settle of a valve (R68). -/
def LaneSettings.closeSettle (c : LaneSettings) (v : Valve) : Nat :=
  match v with
  | .bead => c.closeSettleBead
  | .atomize => c.closeSettleAtomize

/-- R115: t_open = max(0, floor(100 × length ÷ speed) − close lead) ms. -/
def openTimeOf (c : LaneSettings) (seg : Segment) : Nat := 100 * seg.length / seg.speed - c.closeLead seg.valve

/-- R114: a loaded segment is suppressed when its area is outside the pass area set, or a tag names a SUPPRESS
check slot whose verdict is not PRESENT. -/
def suppressed (classes : List CheckClass) (b : BoardRecord) (seg : Segment) : Bool :=
  !b.passAreas[seg.area] ||
    seg.tags.any fun k => decide (classes[k.val]? = some .suppress) && decide (b.verdicts[k] ≠ .present)

/-! ### Low-water and empty events (R110, R111) -/

/-- R111: the cursor as the 16-bit code of QUEUE_EMPTY; 65 536 does not fit and is a free value (log 9). -/
def raiseQueueEmpty (l : LaneId) (s : State) : State :=
  let c := (s.lane l).path.cursor
  if c < 65536 then raise (queueEmptyKind l) (some l) (s.boardSerial l) c s
  else
    raise (queueEmptyKind l) (some l) (s.boardSerial l) (Config.cursorCode s.freeCount).toNat
      { s with freeCount := s.freeCount + 1 }

/-- R110, R111: the events judged on a fall of the unexecuted count from `before`. -/
def State.judgeFall (s : State) (l : LaneId) (before : Nat) : State :=
  let pe := (s.lane l).path
  let now := pe.unexecuted
  let mark := (s.lane l).ctl.settings.lowWater
  if pe.state = .opened then
    let s1 := if mark ≤ before ∧ now < mark then
      raise (queueLowKind l) (some l) (s.boardSerial l) now s else s
    if (s.lane l).ctl.state = .spraying ∧ 1 ≤ before ∧ now = 0 then raiseQueueEmpty l s1 else s1
  else s

/-! ### Spray end (R119) -/

/-- R119 step 3: a COMPLETE path with keep on is kept with its cursor at 1; any other becomes EMPTY. -/
def PathExec.settled (pe : PathExec) : PathExec :=
  if pe.state = .complete ∧ pe.keep then { pe with cursor := 1 } else pe.emptied

/-- R144: the re-evaluation for a lane that entered EXIT_WAIT with its flash-ready time already reached. -/
def State.reevaluateExit (s : State) (l : LaneId) : State :=
  if (s.gate.exit l).any (·.eligible) then s.reevaluate else s

/-- R119: the spray end. The spray end time is set, the film is judged and the hold policy applied, the path is
settled; the gate re-evaluates last (R144). -/
def State.sprayEnd (s : State) (l : LaneId) : State :=
  match s.board l with
  | none => s
  | some b =>
    let stopped := s.modPath l fun pe => { pe with seq := .closed, gapTimer := none }
    let timed := stopped.modRecord b.serial fun r => { r with sprayEnd := some ⟨s.clock, false⟩ }
    ((timed.judgePass l b.serial).modPath l PathExec.settled).reevaluateExit l

/-- R118: the gap timer starts at the lane's segment gap limit. -/
def State.startGap (s : State) (l : LaneId) : State :=
  let limit := (s.lane l).ctl.settings.gapLimit * 1000
  s.modPath l fun pe => { pe with gapTimer := some (after s.clock limit) }

/-- After an outcome with the sequencer CLOSED: the spray ends when the path is COMPLETE and the cursor exceeds
n, otherwise the gap timer starts (R117 step 4, R118, R119). -/
def State.afterOutcome (s : State) (l : LaneId) : State :=
  let pe := (s.lane l).path
  if pe.state = .complete ∧ pe.last.getD 0 < pe.cursor then s.sprayEnd l else s.startGap l

/-! ### The valve sequencer (R115 to R117) -/

/-- The record of the executing segment. -/
def PathExec.executingSegment (pe : PathExec) : Option Segment := pe.executing.bind pe.segment?

/-- R117 steps 1 to 4: the executing segment completes with its pulses and actual open time. -/
def State.finishSegment (s : State) (l : LaneId) : State :=
  let pe := (s.lane l).path
  let before := pe.unexecuted
  let handed := match pe.executingSegment with
    | some seg => s.handOver l seg (s.lane l).meter.segPulses pe.openTime
    | none => s
  let closed := handed.modPath l fun pe =>
    { pe with seq := .closed, executing := none, phaseTimer := none, cursor := pe.cursor + 1 }
  (closed.judgeFall l before).afterOutcome l

/-- R115, R116: the sequencer goes to CLOSING with actual open time `t`; a close settle of 0 reaches CLOSED in
the same event. -/
def State.enterClosing (s : State) (l : LaneId) (seg : Segment) (t : Nat) : State :=
  let settle := (s.lane l).ctl.settings.closeSettle seg.valve
  let closing := s.modPath l fun pe =>
    { pe with seq := .closing, openTime := t, phaseTimer := some (after s.clock settle) }
  if settle = 0 then closing.finishSegment l else closing

/-- R129: the coated flag of the lane's current board is turned on. -/
def State.coatBoard (s : State) (l : LaneId) : State :=
  match s.board l with
  | none => s
  | some b => s.modRecord b.serial fun r => { r with coated := true }

/-- R115: OPEN_DELAY ends. With a t_open of 0 the segment completes with an actual open time of 0; otherwise the
sequencer enters OPEN and the board counts as coated (R129). -/
def State.endOpenDelay (s : State) (l : LaneId) (seg : Segment) : State :=
  let t := openTimeOf (s.lane l).ctl.settings seg
  if t = 0 then (s.modPath l fun pe => { pe with openTime := 0 }).finishSegment l
  else
    (s.modPath l fun pe =>
      { pe with seq := .opened, openedAt := s.clock, phaseTimer := some (after s.clock t) }).coatBoard l

/-- R113 last row, R115, R126: the sequencer starts a segment; an on-delay of 0 ends in the same event. -/
def State.startSegment (s : State) (l : LaneId) (seg : Segment) : State :=
  let delay := (s.lane l).ctl.settings.onDelay seg.valve
  let started := (s.modMeter l fun m => { m with segPulses := 0 }).modPath l fun pe =>
    { pe with
      seq := .openDelay
      executing := some seg.number
      phaseTimer := some (after s.clock delay)
      gapTimer := none
      openTime := 0 }
  if delay = 0 then started.endOpenDelay l seg else started

/-! ### Start strobes (R113) -/

/-- R79, R113: a stale strobe changes nothing but STROBE_STALE's event records. -/
def staleStrobe (l : LaneId) (k : Nat) (s : State) : State :=
  raise .strobeStale (some l) (s.boardSerial l) k s

/-- R113: the first accepted strobe in ARMED takes lane and record to SPRAYING. -/
def State.enterSpraying (s : State) (l : LaneId) (n : Serial) : State :=
  if (s.lane l).ctl.state = .armed then
    (s.modRecord n fun r => { r with stage := .spraying }).setLaneState l .spraying
  else s

/-- R113: the segments from the cursor up to the strobe's are MISSED, and STROBE_SKIP is added. -/
def State.skipTo (s : State) (l : LaneId) (n : Serial) (k : Nat) : State :=
  let pe := (s.lane l).path
  if pe.cursor < k then
    ((s.handOverAll l (pe.queue.filter fun x => pe.cursor ≤ x.number && x.number < k)).modPath l fun pe =>
      { pe with cursor := k }).addReason n .strobeSkip
  else s

/-- R113: a start strobe taken in ARMED or SPRAYING with the sequencer CLOSED. -/
def State.takeStrobe (s : State) (l : LaneId) (k : Nat) : State :=
  match s.board l with
  | none => s
  | some b =>
    let pe := (s.lane l).path
    if k < pe.cursor ∨ (pe.state = .complete ∧ pe.last.getD 0 < k) then staleStrobe l k s
    else
      let before := pe.unexecuted
      let at_ := (s.enterSpraying l b.serial).skipTo l b.serial k
      match pe.segment? k with
      | none =>
        (((at_.modPath l fun pe => { pe with cursor := k + 1 }).addReason b.serial .pathUnderrun).judgeFall l
          before).afterOutcome l
      | some seg =>
        if suppressed (s.recipe b.slot).featuresD b seg then
          (((at_.handOver l seg 0 0).modPath l fun pe => { pe with cursor := k + 1 }).judgeFall l
            before).afterOutcome l
        else (at_.judgeFall l before).startSegment l seg

/-- R79: the START slot's record as the lane and its sequencer have it: taken in ARMED and, with the sequencer
CLOSED, in SPRAYING; left waiting while a segment executes; stale in every other state. -/
def State.serveStart (s : State) (l : LaneId) : State :=
  match (s.lane l).station.startSlot with
  | none => s
  | some k =>
    let freed := s.modStation l fun st => { st with startSlot := none }
    match (s.lane l).ctl.state with
    | .armed => if (s.lane l).path.seq = .closed then freed.takeStrobe l k else s
    | .spraying => if (s.lane l).path.seq = .closed then freed.takeStrobe l k else s
    | _ => staleStrobe l k freed

/-- R80, R116: the END slot's record is consumed; it cuts the executing segment in OPEN_DELAY or OPEN. -/
def State.serveEnd (s : State) (l : LaneId) : State :=
  match (s.lane l).station.endSlot with
  | none => s
  | some k =>
    let freed := s.modStation l fun st => { st with endSlot := none }
    let pe := (s.lane l).path
    if (s.lane l).ctl.state = .spraying ∧ pe.executing = some k then
      match pe.seq, pe.executingSegment with
      | .openDelay, some seg => (freed.enterClosing l seg 0).serveStart l
      | .opened, some seg => (freed.enterClosing l seg (elapsed s.clock pe.openedAt)).serveStart l
      | _, _ => freed
    else freed

/-! ### Sequencer and gap timers -/

/-- A phase timer expiry is due in the phase it times. -/
def State.phaseDue (s : State) (l : LaneId) (x : SeqState) : Bool :=
  decide ((s.lane l).path.seq = x) && timerDue s.clock (s.lane l).path.phaseTimer

/-- A phase without a segment record is in no run; the sequencer goes to CLOSED (log 15). -/
def State.dropPhase (s : State) (l : LaneId) : State :=
  s.modPath l fun pe => { pe with seq := .closed, executing := none, phaseTimer := none }

/-- OPEN_DELAY_END (R115); a waiting START is served last (R117 step 5). -/
def execOpenDelayEnd (l : LaneId) (s : State) : Host.Outcome State Fault Refusal :=
  if s.phaseDue l .openDelay then
    match (s.lane l).path.executingSegment with
    | some seg => .next ((s.endOpenDelay l seg).serveStart l)
    | none => .next (s.dropPhase l)
  else .next s

/-- OPEN_END (R115): the timed open ends with the actual open time t_open. -/
def execOpenEnd (l : LaneId) (s : State) : Host.Outcome State Fault Refusal :=
  if s.phaseDue l .opened then
    match (s.lane l).path.executingSegment with
    | some seg => .next ((s.enterClosing l seg (openTimeOf (s.lane l).ctl.settings seg)).serveStart l)
    | none => .next (s.dropPhase l)
  else .next s

/-- CLOSING_END (R117). -/
def execClosingEnd (l : LaneId) (s : State) : Host.Outcome State Fault Refusal :=
  if s.phaseDue l .closing then .next ((s.finishSegment l).serveStart l) else .next s

/-- R118: at the gap expiry every loaded segment from the cursor on is MISSED, PATH_TIMEOUT is added and the
spray ends. -/
def State.gapExpired (s : State) (l : LaneId) : State :=
  let stopped := s.modPath l fun pe => { pe with gapTimer := none }
  match (s.lane l).ctl.state, s.board l with
  | .spraying, some b =>
    let left := (s.lane l).path.queue.filter fun x => (s.lane l).path.cursor ≤ x.number
    (((stopped.handOverAll l left).modPath l fun pe =>
      { pe with cursor := max pe.cursor (pe.lastLoaded + 1) }).addReason b.serial .pathTimeout).sprayEnd l
  | _, _ => stopped

/-- SEGMENT_GAP_EXPIRY (R118). -/
def execSegmentGapExpiry (l : LaneId) (s : State) : Host.Outcome State Fault Refusal :=
  if timerDue s.clock (s.lane l).path.gapTimer then .next (s.gapExpired l) else .next s

/-! ### Path commands -/

/-- PATH_BEGIN (R104, R105). -/
def pathBeginAnswer (p : Port) (d : List Byte) (s : State) : Answer :=
  if p ≠ .line then refuse .wrongPort s
  else if d.length ≠ 3 then refuse .badLength s
  else
    match laneOf (byteAt d 0) with
    | none => refuse .badValue s
    | some l =>
      let a := word16At d 1
      let x := (s.lane l).ctl.state
      if a = 0 then refuse .badValue s
      else if s.clearing then refuse .busy s
      else if (s.lane l).path.state ≠ .empty then refuse .wrongState s
      else
        match s.resolve a with
        | .error e => refuse e s
        | .ok i =>
          if x = .armed ∨ x = .spraying then
            match s.board l with
            | none => refuse .wrongState s
            | some b =>
              if b.slot = i then
                accept [toByte i.val] (s.modPath l fun pe =>
                  { pe with state := .opened, slot := some i, keep := false, queue := [], last := none })
              else refuse .wrongState ((s.addReason b.serial .pathMismatch).laneHold l b.serial)
          else
            accept [toByte i.val] (s.modPath l fun pe =>
              { pe with
                state := .opened, slot := some i, keep := false, queue := [], last := none, cursor := 1 })

/-- PATH_BEGIN. -/
def execPathBegin (p : Port) (t : Byte) (d : List Byte) (s : State) : Host.Outcome State Fault Refusal :=
  .next (takeCommand p ⟨0x50#8, t, d⟩ (pathBeginAnswer p d) s)

/-- R102, R103: the tags of a segment record: the first `count` name distinct check slots below the recipe's
check-slot count, the rest are 0xFF. -/
def parseTags (classes : Nat) (count : Nat) (tags : List Byte) : Option (List (Fin 16)) :=
  match (tags.take count).mapM (finOf 16) with
  | none => none
  | some ks =>
    if count ≤ 4 ∧ ks.Nodup ∧ ks.all (·.val < classes) ∧ (tags.drop count).all (· == 0xFF#8) then some ks
    else none

/-- R102, R103: one segment record, judged against the recipe slot of the path, with the number it must have;
and whether its flow was reduced to 2 000. -/
def parseSegment (r : RecipeSlot) (number : Nat) (d : List Byte) : Option (Segment × Bool) :=
  match finOf 12 (byteAt d 2), parseTags r.featuresD.length (byteAt d 10).toNat (d.drop 11) with
  | some area, some tags =>
    let len := word16At d 4
    let speed := word16At d 6
    let flow := word16At d 8
    if word16At d 0 = number ∧ area.val < r.areasD.length ∧ (byteAt d 3 = 0#8 ∨ byteAt d 3 = 1#8) ∧
        len ≠ 0 ∧ 1 ≤ speed ∧ speed ≤ 500 ∧ flow ≠ 0 then
      some (⟨number, area, if byteAt d 3 = 0#8 then .bead else .atomize, len, speed, min 2000 flow, tags⟩,
        decide (2000 < flow))
    else none
  | _, _ => none

/-- The records of a SEGMENTS payload, numbered on from `number`; and whether any flow was reduced. -/
def parseSegments (r : RecipeSlot) (number : Nat) (ds : List (List Byte)) : Option (List Segment × Bool) :=
  match ds with
  | [] => some ([], false)
  | d :: rest =>
    match parseSegment r number d, parseSegments r (number + 1) rest with
    | some (seg, c), some (segs, cs) => some (seg :: segs, c || cs)
    | _, _ => none

/-- The 15-byte records after the lane byte (R102). -/
def segmentRecords (d : List Byte) : List (List Byte) :=
  (List.range ((d.length - 1) / 15)).map fun i => (d.drop (1 + 15 * i)).take 15

/-- SEGMENTS (R106). -/
def segmentsAnswer (p : Port) (d : List Byte) (s : State) : Answer :=
  if p ≠ .line then refuse .wrongPort s
  else if ¬ (16 ≤ d.length ∧ d.length ≤ 121 ∧ (d.length - 1) % 15 = 0) then refuse .badLength s
  else
    match laneOf (byteAt d 0) with
    | none => refuse .badValue s
    | some l =>
      let pe := (s.lane l).path
      if pe.state ≠ .opened then refuse .wrongState s
      else
        match pe.slot.bind fun i => parseSegments (s.recipe i) (pe.lastLoaded + 1) (segmentRecords d) with
        | none => refuse .badValue s
        | some (segs, reduced) =>
          if 128 < pe.queue.length + segs.length then refuse .full s
          else
            let queue := pe.queue ++ segs
            let s1 := s.modPath l fun pe => { pe with queue := queue }
            ⟨if reduced then .clamped else .ok,
              bytes16 ((s1.lane l).path.lastLoaded) ++ [toByte (128 - queue.length)], s1⟩

/-- SEGMENTS. -/
def execSegments (p : Port) (t : Byte) (d : List Byte) (s : State) : Host.Outcome State Fault Refusal :=
  .next (takeCommand p ⟨0x51#8, t, d⟩ (segmentsAnswer p d) s)

/-- PATH_END (R107). -/
def pathEndAnswer (p : Port) (d : List Byte) (s : State) : Answer :=
  if p ≠ .line then refuse .wrongPort s
  else if d.length ≠ 1 then refuse .badLength s
  else
    match laneOf (byteAt d 0) with
    | none => refuse .badValue s
    | some l =>
      let pe := (s.lane l).path
      if pe.state ≠ .opened ∨ pe.queue = [] then refuse .wrongState s
      else
        let n := pe.lastLoaded
        let s1 := s.modPath l fun pe => { pe with state := .complete, last := some n }
        accept (bytes16 n)
          (if (s.lane l).ctl.state = .spraying ∧ n < pe.cursor then s1.sprayEnd l else s1)

/-- PATH_END. -/
def execPathEnd (p : Port) (t : Byte) (d : List Byte) (s : State) : Host.Outcome State Fault Refusal :=
  .next (takeCommand p ⟨0x52#8, t, d⟩ (pathEndAnswer p d) s)

/-- PATH_KEEP (R108). -/
def pathKeepAnswer (p : Port) (d : List Byte) (s : State) : Answer :=
  if p ≠ .line then refuse .wrongPort s
  else if d.length ≠ 2 then refuse .badLength s
  else
    match laneOf (byteAt d 0), onOffOf (byteAt d 1) with
    | some l, some keep =>
      if (s.lane l).path.state = .empty then refuse .wrongState s
      else accept [] (s.modPath l fun pe => { pe with keep := keep })
    | _, _ => refuse .badValue s

/-- PATH_KEEP. -/
def execPathKeep (p : Port) (t : Byte) (d : List Byte) (s : State) : Host.Outcome State Fault Refusal :=
  .next (takeCommand p ⟨0x53#8, t, d⟩ (pathKeepAnswer p d) s)

/-- PATH_DISCARD (R109). -/
def pathDiscardAnswer (p : Port) (d : List Byte) (s : State) : Answer :=
  if p ≠ .line then refuse .wrongPort s
  else if d.length ≠ 1 then refuse .badLength s
  else
    match laneOf (byteAt d 0) with
    | none => refuse .badValue s
    | some l =>
      let x := (s.lane l).ctl.state
      if x = .armed ∨ x = .spraying then refuse .wrongState s
      else accept [toByte (s.lane l).path.queue.length] (s.modPath l PathExec.emptied)

/-- PATH_DISCARD. -/
def execPathDiscard (p : Port) (t : Byte) (d : List Byte) (s : State) : Host.Outcome State Fault Refusal :=
  .next (takeCommand p ⟨0x54#8, t, d⟩ (pathDiscardAnswer p d) s)

end Sys2Proof.Machine
end

