-- ==== Sys2Proof/Machine/Mask.lean ====
section
/-!
DEFINITION. The Mask Checker (chapter 06): taking readings, combining verdicts, the end of the check, the ruling
by class, and the path check of R112.
-/

namespace Sys2Proof.Machine

open Sys2Proof

/-- R90: the verdict after a reading. -/
def combine (v : Verdict) (r : ReadResult) : Verdict :=
  match v, r with
  | .absent, _ => .absent
  | _, .absent => .absent
  | _, .present => .present
  | .present, .unreadable => .present
  | _, .unreadable => .unreadable

/-- R112: the lane enters ARMED: cursor 1, sequencer CLOSED, gap timer stopped. -/
def State.enterArmed (s : State) (l : LaneId) (n : Serial) : State :=
  ((s.modRecord n fun r => { r with stage := .armed }).setLaneState l .armed).modPath l fun pe =>
    { pe with cursor := 1, seq := .closed, gapTimer := none }

/-- R112: the path compared with the board. -/
def State.pathCheck (s : State) (l : LaneId) (b : BoardRecord) : State :=
  let pe := (s.lane l).path
  if pe.state ≠ .empty ∧ pe.slot ≠ some b.slot then
    (s.addReason b.serial .pathMismatch).laneHold l b.serial
  else s.enterArmed l b.serial

/-- R94: the CRITICAL check slots of the recipe that are unmasked. -/
def criticalUnmasked (classes : List CheckClass) (b : BoardRecord) : FlagSet 16 :=
  setOf 16 fun k => decide (classes[k.val]? = some .critical) && decide (b.verdicts[k] ≠ .present)

/-- R94, R95: the ruling on the lane's current board. -/
def State.ruling (s : State) (l : LaneId) : State :=
  match s.board l with
  | none => s
  | some b =>
    let bad := criticalUnmasked (s.recipe b.slot).featuresD b
    if setAny bad then
      (s.modRecord b.serial fun r =>
        { r.addReason .maskCritical with maskCritical := setUnion r.maskCritical bad }).laneHold l b.serial
    else s.pathCheck l b

/-- R81: every waiting reading is discarded as late. -/
def State.discardReadings (s : State) (l : LaneId) : State :=
  let k := (s.lane l).station.inspectQueue.length
  (s.modStation l fun st => { st with inspectQueue := [] }).modChecker l fun m =>
    { m with lateCount := satAdd 65535 m.lateCount k }

/-- R86: both timers stop and the checker is not ready. -/
def MaskChecker.stopped (m : MaskChecker) : MaskChecker :=
  { m with checkTimer := none, paceTimer := none, ready := false }

/-- R92, R93: the check ends; the readings behind are late; the ruling follows in the same event. -/
def State.endCheck (s : State) (l : LaneId) : State :=
  let ended := (s.discardReadings l).modChecker l MaskChecker.stopped
  if (s.lane l).ctl.state = .checking then ended.ruling l else ended

/-- R90, R91: a reading of check slot `k`: the verdict is combined, then MASK_FEATURE raised if flagged. -/
def State.readCheckSlot (s : State) (l : LaneId) (b : BoardRecord) (rd : Reading) (k : Fin 16) (notice : Bool) :
    State :=
  let written := s.modRecord b.serial fun r =>
    { r with verdicts := r.verdicts.set k (combine r.verdicts[k] rd.result) }
  if notice then
    raise .maskFeature (some l) b.serial (rd.code.val * 256 + readResultCode rd.result) written
  else written

/-- R88: a ready checker takes the head reading of the queue, if there is one. -/
def State.takeReading (s : State) (l : LaneId) : State :=
  match (s.lane l).station.inspectQueue, s.board l with
  | rd :: rest, some b =>
    if (s.lane l).checker.ready then
      let taken := (s.modStation l fun st => { st with inspectQueue := rest }).modChecker l fun m =>
        { m with ready := false, paceTimer := some (after s.clock 1) }
      match (s.recipe b.slot).map[rd.code] with
      | .endMark => taken.endCheck l
      | .none => taken.modChecker l fun m => { m with unmappedCount := satAdd 65535 m.unmappedCount 1 }
      | .checkSlot k notice => taken.readCheckSlot l b rd k notice
    else s
  | _, _ => s

/-- R81: the INSPECT queue as the lane state has it: read at the checker's pace in CHECKING, late otherwise. -/
def State.serveInspect (s : State) (l : LaneId) : State :=
  if (s.lane l).ctl.state = .checking then s.takeReading l else s.discardReadings l

/-- R88: the pace timer expires; while the check runs the checker becomes ready and takes a waiting reading. -/
def State.paceExpired (s : State) (l : LaneId) : State :=
  if (s.lane l).ctl.state = .checking then
    (s.modChecker l fun m => { m with paceTimer := none, ready := true }).takeReading l
  else s.modChecker l fun m => { m with paceTimer := none }

/-- PACE_TIMER_EXPIRY (R88). -/
def execPaceTimerExpiry (l : LaneId) (s : State) : Host.Outcome State Fault Refusal :=
  if timerDue s.clock (s.lane l).checker.paceTimer then .next (s.paceExpired l) else .next s

/-- CHECK_TIMER_EXPIRY (R93). -/
def execCheckTimerExpiry (l : LaneId) (s : State) : Host.Outcome State Fault Refusal :=
  if timerDue s.clock (s.lane l).checker.checkTimer then .next (s.endCheck l) else .next s

end Sys2Proof.Machine
end

