-- ==== Sys2Proof/Machine/Station.lean ====
section
/-!
DEFINITION. The Station Ports and the lane output lines (chapter 05).
-/

namespace Sys2Proof.Machine

open Sys2Proof

/-! ### Assemblers (R75) -/

/-- The assembler of a slot address. -/
def StationPort.assembler (st : StationPort) (slot : StationSlot) : Assembler :=
  match slot with
  | .startSlot => st.startAsm
  | .endSlot => st.endAsm
  | .inspectSlot => st.inspectAsm
  | .boardSlot => st.boardAsm

/-- Changing the assembler of a slot address. -/
def StationPort.setAssembler (st : StationPort) (slot : StationSlot) (a : Assembler) : StationPort :=
  match slot with
  | .startSlot => { st with startAsm := a }
  | .endSlot => { st with endAsm := a }
  | .inspectSlot => { st with inspectAsm := a }
  | .boardSlot => { st with boardAsm := a }

/-- R74: the bytes make a complete record of the slot. For BOARD the first byte settles the length. -/
def recordComplete (slot : StationSlot) (d : List Byte) : Bool :=
  match slot with
  | .boardSlot => if byteAt d 0 = 1#8 then d.length = 5 else d.length = 1
  | _ => d.length = 2

/-- R74: a complete INSPECT record. -/
def readingOf (d : List Byte) : Reading := ⟨(byteAt d 0).toFin, readResultOf (byteAt d 1)⟩

/-- R74: a complete BOARD record. -/
def boardReportOf (d : List Byte) : BoardReport :=
  if byteAt d 0 = 1#8 then .arrived (word32At d 1) else .cleared

/-! ### Loss (R77, R78) -/

/-- The serial in the detail of a lost BOARD record (R78). -/
def lostSerial (r : BoardReport) : Serial :=
  match r with
  | .arrived n => n
  | .cleared => 0

/-- R77: a lost record counts at its slot. -/
def StationPort.countLoss (st : StationPort) (slot : StationSlot) : StationPort :=
  match slot with
  | .startSlot => { st with startOverruns := satAdd 255 st.startOverruns 1 }
  | .endSlot => { st with endOverruns := satAdd 255 st.endOverruns 1 }
  | .inspectSlot => { st with inspectOverruns := satAdd 255 st.inspectOverruns 1 }
  | .boardSlot => { st with boardOverruns := satAdd 255 st.boardOverruns 1 }

/-- Adding a reason to the lane's current board, if it has one. -/
def State.addBoardReason (s : State) (l : LaneId) (r : Reason) : State :=
  match s.board l with
  | none => s
  | some b => s.addReason b.serial r

/-- R77, R78: a record is lost: the count, then the slot's consequence. -/
def State.loseRecord (s : State) (l : LaneId) (slot : StationSlot) (serial : Serial) : State :=
  let counted := s.modStation l fun st => st.countLoss slot
  let x := (s.lane l).ctl.state
  match slot with
  | .startSlot => if x = .armed ∨ x = .spraying then counted.addBoardReason l .strobeLoss else counted
  | .endSlot => counted
  | .inspectSlot => if x = .checking then counted.addBoardReason l .inspectionLoss else counted
  | .boardSlot => raise .strayBoard (some l) serial 3 counted

/-! ### Entry into a slot and consumption (R77, R79 to R82) -/

/-- R66: CLEARED in EJECTING ends the eject: the eject timer is cancelled and the lane enters IDLE, or OFF, where a
record waiting in the BOARD slot is taken (R62). -/
def State.endEject (s : State) (l : LaneId) : State :=
  (s.modCtl l fun c => { c with ejectTimer := none }).enterIdle l

/-- R82: the BOARD slot's record as its kind and the lane state have it. -/
def State.serveBoard (s : State) (l : LaneId) : State :=
  match (s.lane l).station.boardSlot with
  | some .cleared =>
    let freed := s.modStation l fun st => { st with boardSlot := none }
    if (s.lane l).ctl.state = .ejecting then freed.endEject l else freed
  | some (.arrived _) => s.serveArrived l
  | none => s

/-- R77: a complete record enters its slot if there is room, and is consumed or kept waiting; otherwise it is
lost, unexamined: a CLEARED too, in EJECTING as elsewhere, when an ARRIVED waits (R78, R82; log 10). -/
def State.enterSlot (s : State) (l : LaneId) (slot : StationSlot) (d : List Byte) : State :=
  let st := (s.lane l).station
  match slot with
  | .startSlot =>
    if st.startSlot.isSome then s.loseRecord l slot 0
    else (s.modStation l fun st => { st with startSlot := some (word16At d 0) }).serveStart l
  | .endSlot =>
    if st.endSlot.isSome then s.loseRecord l slot 0
    else (s.modStation l fun st => { st with endSlot := some (word16At d 0) }).serveEnd l
  | .inspectSlot =>
    if 4 ≤ st.inspectQueue.length then s.loseRecord l slot 0
    else
      (s.modStation l fun st => { st with inspectQueue := st.inspectQueue ++ [readingOf d] }).serveInspect l
  | .boardSlot =>
    if st.boardSlot.isSome then s.loseRecord l slot (lostSerial (boardReportOf d))
    else (s.modStation l fun st => { st with boardSlot := some (boardReportOf d) }).serveBoard l

/-- R75: a byte written to a slot address. It extends the partial record and restarts its 2 ms gap timer, or
completes the record, which is handed to its slot in the same event. The byte goes to the slot its row names; the level
of the address lines, which busy follows (R76), moves only at SLOT_ADDRESS_CHANGE (log 30). -/
def State.stationByte (s : State) (l : LaneId) (slot : StationSlot) (b : Byte) : State :=
  let d := ((s.lane l).station.assembler slot).bytes ++ [b]
  if recordComplete slot d then
    (s.modStation l fun st => st.setAssembler slot Assembler.reset).enterSlot l slot d
  else s.modStation l fun st => st.setAssembler slot ⟨d, some (after s.clock 2)⟩

/-- STATION_BYTE_WRITTEN (R75). -/
def execStationByteWritten (l : LaneId) (slot : StationSlot) (b : Byte) (s : State) :
    Host.Outcome State Fault Refusal := .next (s.stationByte l slot b)

/-- START_STROBE (R79): a byte to the START address. -/
def execStartStrobe (l : LaneId) (b : Byte) (s : State) : Host.Outcome State Fault Refusal :=
  .next (s.stationByte l .startSlot b)

/-- END_STROBE (R80): a byte to the END address. -/
def execEndStrobe (l : LaneId) (b : Byte) (s : State) : Host.Outcome State Fault Refusal :=
  .next (s.stationByte l .endSlot b)

/-- INSPECT_READING (R81): a byte to the INSPECT address. -/
def execInspectReading (l : LaneId) (b : Byte) (s : State) : Host.Outcome State Fault Refusal :=
  .next (s.stationByte l .inspectSlot b)

/-- ARRIVED (R61): a byte to the BOARD address. -/
def execArrived (l : LaneId) (b : Byte) (s : State) : Host.Outcome State Fault Refusal :=
  .next (s.stationByte l .boardSlot b)

/-- CLEARED (R66): a byte to the BOARD address. -/
def execCleared (l : LaneId) (b : Byte) (s : State) : Host.Outcome State Fault Refusal :=
  .next (s.stationByte l .boardSlot b)

/-- R75: the gap timer of an assembler is due. -/
def State.stationGapDue (s : State) (l : LaneId) (slot : StationSlot) : Bool :=
  timerDue s.clock ((s.lane l).station.assembler slot).gap

/-- STATION_GAP_EXPIRY (R75): the partial record is lost; a partial ARRIVED is reported with serial 0. -/
def execStationGapExpiry (l : LaneId) (slot : StationSlot) (s : State) : Host.Outcome State Fault Refusal :=
  if s.stationGapDue l slot then
    .next ((s.modStation l fun st => st.setAssembler slot Assembler.reset).loseRecord l slot 0)
  else .next s

/-- SLOT_ADDRESS_CHANGE (R76): busy follows the newly addressed slot. -/
def execSlotAddressChange (l : LaneId) (slot : StationSlot) (s : State) : Host.Outcome State Fault Refusal :=
  .next (s.modStation l fun st => { st with address := slot })

/-! ### Output lines (R76, R83, table 5.5) -/

/-- R76: busy is asserted while the addressed slot is full. -/
def State.busyLine (s : State) (l : LaneId) : Bool :=
  let st := (s.lane l).station
  match st.address with
  | .startSlot => st.startSlot.isSome
  | .endSlot => st.endSlot.isSome
  | .inspectSlot => 4 ≤ st.inspectQueue.length
  | .boardSlot => st.boardSlot.isSome

/-- 5.5: a valve drive is asserted while the lane is SPRAYING and its sequencer is OPEN for a segment of that
valve. -/
def State.valveDrive (s : State) (l : LaneId) (v : Valve) : Bool :=
  decide ((s.lane l).ctl.state = .spraying) && decide ((s.lane l).path.seq = .opened) &&
    (s.lane l).path.executingSegment.any fun seg => decide (seg.valve = v)

/-- 5.5: the eject output is asserted while the lane is EJECTING. -/
def State.ejectDrive (s : State) (l : LaneId) : Bool := (s.lane l).ctl.state = .ejecting

/-- 5.5: a gate release is asserted while its source holds the grant. -/
def State.gateRelease (s : State) (src : Source) : Bool := s.gate.grant = some src

end Sys2Proof.Machine
end

