-- ==== Sys2Proof/Machine/Lanes.lean ====
section
/-!
DEFINITION. The lane commands and the eject timer (chapter 04): LANE_ENABLE, LANE_DISABLE, LANE_RESET,
SET_LANE_CONFIG, CLEAR_NOZZLE_COUNT.
-/

namespace Sys2Proof.Machine

open Sys2Proof

/-- The lane state and disable-pending after the command, as LANE_ENABLE and LANE_DISABLE reply (R59, R60). -/
def laneReply (l : LaneId) (s : State) : List Byte :=
  [toByte (s.lane l).ctl.state.code, flagByte (s.lane l).ctl.disablePending]

/-- LANE_ENABLE (R59). -/
def laneEnableAnswer (p : Port) (d : List Byte) (s : State) : Answer :=
  if p ≠ .line then refuse .wrongPort s
  else if d.length ≠ 1 then refuse .badLength s
  else
    match laneOf (byteAt d 0) with
    | none => refuse .badValue s
    | some l =>
      let x := (s.lane l).ctl.state
      if x = .fault then refuse .wrongState s
      else
        let s1 := if x = .off then s.enterIdle l else s.modCtl l fun c => { c with disablePending := false }
        accept (laneReply l s1) s1

/-- LANE_ENABLE. -/
def execLaneEnable (p : Port) (t : Byte) (d : List Byte) (s : State) : Host.Outcome State Fault Refusal :=
  .next (takeCommand p ⟨0x30#8, t, d⟩ (laneEnableAnswer p d) s)

/-- R60: the effect of LANE_DISABLE by lane state. -/
def State.disableLane (s : State) (l : LaneId) : State :=
  match (s.lane l).ctl.state with
  | .off => s
  | .idle => (s.modCtl l fun c => { c with state := .off, disablePending := false }).serveArrived l
  | _ => s.modCtl l fun c => { c with disablePending := true }

/-- LANE_DISABLE (R60), on either port. -/
def laneDisableAnswer (d : List Byte) (s : State) : Answer :=
  if d.length ≠ 1 then refuse .badLength s
  else
    match laneOf (byteAt d 0) with
    | none => refuse .badValue s
    | some l => accept (laneReply l (s.disableLane l)) (s.disableLane l)

/-- LANE_DISABLE. -/
def execLaneDisable (p : Port) (t : Byte) (d : List Byte) (s : State) : Host.Outcome State Fault Refusal :=
  .next (takeCommand p ⟨0x31#8, t, d⟩ (laneDisableAnswer d) s)

/-! ### Lane reset (R71, R72) -/

/-- R85: the slots and assemblers emptied without counting; the overrun counts are kept, and the address lines
are an input. -/
def StationPort.emptied (st : StationPort) : StationPort :=
  { st with
    startAsm := Assembler.reset, endAsm := Assembler.reset
    inspectAsm := Assembler.reset, boardAsm := Assembler.reset
    startSlot := none, endSlot := none, inspectQueue := [], boardSlot := none }

/-- The output, timer, path, station slot and lane state effects of a reset on one lane (R71, R85, R86, R121,
R138), and its requester entry removed (R151). -/
def State.clearLane (s : State) (l : LaneId) : State :=
  { s with gate := s.gate.setExit l none }.modLane l fun x =>
    { ctl := { x.ctl with
        state := .off, disablePending := false, ejectSubject := none, ejectTimer := none }
      station := x.station.emptied
      checker := x.checker.stopped
      path := PathExec.reset
      meter := { x.meter with segPulses := 0 } }

/-- R71: the current board gets LANE_ABORT and a forced hold at LANE_n. -/
def State.abortBoard (s : State) (l : LaneId) (b : BoardRecord) : State :=
  if 1 ≤ s.freeEntries then (s.addReason b.serial .laneAbort).grantHold b (.lane l) else s.overflow b 2

/-- R71: LANE_RESET. The gate re-evaluates last when the lane's grant was withdrawn (R144, R151). -/
def State.resetLane (s : State) (l : LaneId) : State :=
  let held := s.gate.grant = some (.lane l)
  let cleared := s.clearLane l
  let withdrawn := if held then
    { cleared with gate := { cleared.gate with grant := none, transferTimer := none } } else cleared
  let aborted := match s.board l with
    | none => withdrawn
    | some b => withdrawn.abortBoard l b
  if held then aborted.reevaluate else aborted

/-- R72: the fate of the current board: 0 none, 1 held, 2 removed at hold overflow. -/
def State.abortFate (s : State) (l : LaneId) : Byte :=
  if (s.board l).isNone then 0#8 else if 1 ≤ s.freeEntries then 1#8 else 2#8

/-- R72: the entries of an announce queue, head first. -/
def queueBytes (q : List QueueEntry) : List Byte := q.flatMap fun e => bytes32 e.serial ++ [flagByte e.rework]

/-- LANE_RESET (R71, R72). -/
def laneResetAnswer (p : Port) (d : List Byte) (s : State) : Answer :=
  if p ≠ .line then refuse .wrongPort s
  else if d.length ≠ 1 then refuse .badLength s
  else
    match laneOf (byteAt d 0) with
    | none => refuse .badValue s
    | some l =>
      let c := (s.lane l).ctl
      accept ([toByte c.state.code, s.abortFate l, toByte c.queue.length] ++ queueBytes c.queue) (s.resetLane l)

/-- LANE_RESET. -/
def execLaneReset (p : Port) (t : Byte) (d : List Byte) (s : State) : Host.Outcome State Fault Refusal :=
  .next (takeCommand p ⟨0x32#8, t, d⟩ (laneResetAnswer p d) s)

/-! ### Lane settings and nozzle count (R68, R70) -/

/-- The settings a SET_LANE_CONFIG payload carries (01 table 1.4). -/
def laneSettingsOf (d : List Byte) : LaneSettings where
  onDelayBead := (byteAt d 1).toNat
  onDelayAtomize := (byteAt d 2).toNat
  closeLeadBead := (byteAt d 3).toNat
  closeLeadAtomize := (byteAt d 4).toNat
  closeSettleBead := (byteAt d 5).toNat
  closeSettleAtomize := (byteAt d 6).toNat
  ejectTimeout := (byteAt d 7).toNat
  gapLimit := (byteAt d 8).toNat
  lowWater := (byteAt d 9).toNat
  nozzleLimit := word16At d 10

/-- R68: every setting lies in its range. -/
def LaneSettings.inRange (c : LaneSettings) : Bool :=
  c.onDelayBead ≤ 250 && c.onDelayAtomize ≤ 250 && c.closeLeadBead ≤ 250 && c.closeLeadAtomize ≤ 250 &&
    c.closeSettleBead ≤ 250 && c.closeSettleAtomize ≤ 250 && 1 ≤ c.ejectTimeout && c.ejectTimeout ≤ 60 &&
    1 ≤ c.gapLimit && c.gapLimit ≤ 60 && 1 ≤ c.lowWater && c.lowWater ≤ 64 && 1 ≤ c.nozzleLimit &&
    c.nozzleLimit ≤ 65535

/-- R68: the settings are replaced, and a limit at or below the count sets SERVICE_DUE. -/
def State.configureLane (s : State) (l : LaneId) (c : LaneSettings) : State :=
  let x := (s.lane l).ctl
  if c.nozzleLimit ≤ x.nozzleCount ∧ x.serviceDue = false then
    raise .serviceDue (some l) 0 x.nozzleCount
      (s.modCtl l fun x => { x with settings := c, serviceDue := true })
  else s.modCtl l fun x => { x with settings := c }

/-- SET_LANE_CONFIG (R68). -/
def setLaneConfigAnswer (p : Port) (d : List Byte) (s : State) : Answer :=
  if p ≠ .line then refuse .wrongPort s
  else if d.length ≠ 12 then refuse .badLength s
  else
    match laneOf (byteAt d 0) with
    | none => refuse .badValue s
    | some l =>
      if !(laneSettingsOf d).inRange then refuse .badValue s
      else if (s.lane l).ctl.state ≠ .off then refuse .wrongState s
      else accept [] (s.configureLane l (laneSettingsOf d))

/-- SET_LANE_CONFIG. -/
def execSetLaneConfig (p : Port) (t : Byte) (d : List Byte) (s : State) : Host.Outcome State Fault Refusal :=
  .next (takeCommand p ⟨0x11#8, t, d⟩ (setLaneConfigAnswer p d) s)

/-- CLEAR_NOZZLE_COUNT (R70, R123). -/
def clearNozzleAnswer (p : Port) (d : List Byte) (s : State) : Answer :=
  if p ≠ .line then refuse .wrongPort s
  else if d.length ≠ 1 then refuse .badLength s
  else
    match laneOf (byteAt d 0) with
    | none => refuse .badValue s
    | some l =>
      let c := (s.lane l).ctl
      if c.state = .off ∨ c.state = .idle then
        accept (bytes16 c.nozzleCount)
          ((s.modCtl l fun c => { c with nozzleCount := 0, serviceDue := false }).modMeter l fun m =>
            { m with idleDrip := 0 })
      else refuse .wrongState s

/-- CLEAR_NOZZLE_COUNT. -/
def execClearNozzleCount (p : Port) (t : Byte) (d : List Byte) (s : State) :
    Host.Outcome State Fault Refusal :=
  .next (takeCommand p ⟨0x34#8, t, d⟩ (clearNozzleAnswer p d) s)

/-! ### Eject timer (R66) -/

/-- R66: the expiry first: the lane enters FAULT with its subject kept (R57), and LANE_FAULT carries the
subject's serial, 0 for a stray, and code 1. -/
def State.ejectExpired (s : State) (l : LaneId) : State :=
  let c := (s.lane l).ctl
  let stopped := s.modCtl l fun c => { c with ejectTimer := none }
  if c.state = .ejecting then
    raise .laneFault (some l) (c.ejectSubject.getD 0) 1 (stopped.setLaneState l .fault)
  else stopped

/-- EJECT_TIMER_EXPIRY (R66). -/
def execEjectTimerExpiry (l : LaneId) (s : State) : Host.Outcome State Fault Refusal :=
  if timerDue s.clock (s.lane l).ctl.ejectTimer then .next (s.ejectExpired l) else .next s

end Sys2Proof.Machine
end

