-- ==== Sys2Proof/Machine/Recipes.lean ====
section
/-!
DEFINITION. The Recipe Store's commands and its clear timer (chapter 02).
-/

namespace Sys2Proof.Machine

open Sys2Proof

/-! ### The five sections (R20 to R24) -/

/-- The five sections with their codes (table 2.2). -/
inductive SectionCode where
  | material
  | areas
  | features
  | cure
  | timing
  deriving DecidableEq, Repr

/-- A section code, 1 to 5. -/
def sectionOf (b : Byte) : Option SectionCode :=
  if b = 1#8 then some .material
  else if b = 2#8 then some .areas
  else if b = 3#8 then some .features
  else if b = 4#8 then some .cure
  else if b = 5#8 then some .timing
  else none

/-- R24 check 3: the count byte that opens AREAS or FEATURES is one the section can have. -/
def countByteOk (c : SectionCode) (d : List Byte) : Bool :=
  match c with
  | .areas => 1 ≤ (byteAt d 2).toNat && (byteAt d 2).toNat ≤ 12
  | .features => (byteAt d 2).toNat ≤ 16
  | _ => true

/-- The section length for a code and the count byte of the payload (table 2.2). -/
def sectionLength (c : SectionCode) (d : List Byte) : Nat :=
  match c with
  | .material => 5
  | .areas => 1 + 6 * (byteAt d 2).toNat
  | .features => 1 + (byteAt d 2).toNat
  | .cure => 7
  | .timing => 12

/-- R20: the MATERIAL fields of a WRITE_RECIPE payload, each in its range. -/
def parseMaterial (d : List Byte) : Option Material :=
  let m : Material := ⟨word16At d 2, word16At d 4, (byteAt d 6).toNat⟩
  if 1 ≤ m.pulseVolume ∧ m.pulseVolume ≤ 4095 ∧ 1 ≤ m.solids ∧ m.solids ≤ 1000 ∧
      1 ≤ m.flowTolerance ∧ m.flowTolerance ≤ 50 then some m else none

/-- R21: one area of an AREAS payload, in its ranges. -/
def parseArea (d : List Byte) (i : Nat) : Option AreaSpec :=
  let a : AreaSpec := ⟨word16At d (3 + 6 * i), word16At d (5 + 6 * i), word16At d (7 + 6 * i)⟩
  if 1 ≤ a.area ∧ 1 ≤ a.filmMin ∧ 1 ≤ a.filmMax ∧ a.filmMin ≤ a.filmMax then some a else none

/-- R21: the AREAS fields of a WRITE_RECIPE payload. -/
def parseAreas (d : List Byte) : Option (List AreaSpec) :=
  (List.range (byteAt d 2).toNat).mapM (parseArea d)

/-- R22: the FEATURES fields of a WRITE_RECIPE payload. -/
def parseFeatures (d : List Byte) : Option (List CheckClass) :=
  (List.range (byteAt d 2).toNat).mapM fun i => checkClassOf (byteAt d (3 + i))

/-- R23: the CURE fields of a WRITE_RECIPE payload, each in its range. -/
def parseCure (d : List Byte) : Option Cure :=
  let c : Cure := ⟨int16At d 2, (byteAt d 4).toNat, word16At d 5, word16At d 7⟩
  if 400 ≤ c.refTemp ∧ c.refTemp ≤ 2000 ∧ 1 ≤ c.targetMinutes ∧ c.targetMinutes ≤ 240 ∧
      100 ≤ c.overCure ∧ c.overCure ≤ 400 ∧ c.overheatMargin ≤ 300 then some c else none

/-- R23: the TIMING fields of a WRITE_RECIPE payload, each in its range. -/
def parseTiming (d : List Byte) : Option Timing :=
  let t : Timing :=
    ⟨(byteAt d 2).toNat, word16At d 3, word16At d 5, word32At d 7, word16At d 11,
      if byteAt d 13 = 0#8 then .holdWet else .holdAfterCure⟩
  if 1 ≤ t.inspectTimeout ∧ t.inspectTimeout ≤ 120 ∧ t.flashOff ≤ 1800 ∧ t.flashOff ≤ t.maxOpen ∧
      t.maxOpen ≤ 7200 ∧ 60 ≤ t.wetHold ∧ t.wetHold ≤ 86400 ∧ (byteAt d 13).toNat ≤ 1 then some t else none

/-- R22: entries naming a check slot at or beyond a smaller count become NONE. -/
def cutMap (count : Nat) (m : Vector MapEntry 256) : Vector MapEntry 256 :=
  Vector.ofFn fun i =>
    match m[i] with
    | .checkSlot k f => if k.val < count then .checkSlot k f else .none
    | e => e

/-- R22: a FEATURES write; a smaller count than the slot held before cuts the map. -/
def RecipeSlot.withFeatures (r : RecipeSlot) (cs : List CheckClass) : RecipeSlot :=
  { r with
    features := some cs
    map := if cs.length < r.featuresD.length then cutMap cs.length r.map else r.map }

/-- R24: the slot after an accepted write of a section, without the edit count; none when a field is out of
range. -/
def RecipeSlot.written (r : RecipeSlot) (c : SectionCode) (d : List Byte) : Option RecipeSlot :=
  match c with
  | .material => (parseMaterial d).map fun m => { r with material := some m }
  | .areas => (parseAreas d).map fun a => { r with areas := some a }
  | .features => (parseFeatures d).map r.withFeatures
  | .cure => (parseCure d).map fun x => { r with cure := some x }
  | .timing => (parseTiming d).map fun x => { r with timing := some x }

/-- Replacing one recipe slot. -/
def State.setRecipe (s : State) (i : Fin 8) (r : RecipeSlot) : State :=
  { s with store := { s.store with slots := s.store.slots.set i r } }

/-- R19: the edit count rises by 1. -/
def RecipeSlot.edited (r : RecipeSlot) : RecipeSlot := { r with editCount := satAdd 65535 r.editCount 1 }

/-- WRITE_RECIPE (R24). -/
def writeRecipeAnswer (p : Port) (d : List Byte) (s : State) : Answer :=
  if p ≠ .line then refuse .wrongPort s
  else if d.length < 3 then refuse .badLength s
  else
    match sectionOf (byteAt d 1) with
    | none => refuse .badValue s
    | some c =>
      if !countByteOk c d then refuse .badValue s
      else if d.length ≠ 2 + sectionLength c d then refuse .badLength s
      else
        match finOf 8 (byteAt d 0) with
        | none => refuse .badValue s
        | some i =>
          match (s.recipe i).written c d with
          | none => refuse .badValue s
          | some r =>
            if s.clearing then refuse .busy s
            else if s.slotInUse i then refuse .inUse s
            else accept [toByte r.state.code] (s.setRecipe i r.edited)

/-- WRITE_RECIPE. -/
def execWriteRecipe (p : Port) (t : Byte) (d : List Byte) (s : State) : Host.Outcome State Fault Refusal :=
  .next (takeCommand p ⟨0x20#8, t, d⟩ (writeRecipeAnswer p d) s)

/-! ### Reading (R25, R26) -/

/-- R25: the fields of a marked section, in the layout of its write. -/
def RecipeSlot.sectionBytes (r : RecipeSlot) (c : SectionCode) : Option (List Byte) :=
  match c with
  | .material => r.material.map fun m => bytes16 m.pulseVolume ++ bytes16 m.solids ++ [toByte m.flowTolerance]
  | .areas => r.areas.map fun a =>
      toByte a.length :: a.flatMap fun x => bytes16 x.area ++ bytes16 x.filmMin ++ bytes16 x.filmMax
  | .features => r.features.map fun cs => toByte cs.length :: cs.map fun x => toByte x.code
  | .cure => r.cure.map fun c =>
      bytesInt16 c.refTemp ++ [toByte c.targetMinutes] ++ bytes16 c.overCure ++ bytes16 c.overheatMargin
  | .timing => r.timing.map fun t =>
      [toByte t.inspectTimeout] ++ bytes16 t.flashOff ++ bytes16 t.maxOpen ++ bytes32 t.wetHold ++
        bytes16 t.dripLimit ++ [if t.policy = .holdWet then 0#8 else 1#8]

/-- R26: the SUMMARY fields of a slot. -/
def State.summaryBytes (s : State) (i : Fin 8) : List Byte :=
  let r := s.recipe i
  [toByte r.state.code] ++ r.marks.map flagByte ++
    [flagByte (s.slotInUse i), toByte (s.recordsNaming i), toByte (s.pathsNaming i),
      toByte (s.store.aliasTable.filter (·.2 == i)).length, toByte s.store.aliasTable.length] ++
    bytes16 r.editCount

/-- R26: the 64 entries of a quarter of a map, from feature code 64 × `q`. -/
def mapQuarter (m : Vector MapEntry 256) (q : Nat) : List Byte :=
  ((m.toList.drop (64 * q)).take 64).flatMap MapEntry.bytes

/-- R25, R26: READ_RECIPE for every section code. It changes nothing. While CLEARING, a slot or section code out of
range is answered BAD_VALUE before BUSY (log 29). -/
def readRecipeAnswer (p : Port) (d : List Byte) (s : State) : Answer :=
  if p ≠ .line then refuse .wrongPort s
  else if d.length ≠ 2 then refuse .badLength s
  else
    let c := (byteAt d 1).toNat
    match finOf 8 (byteAt d 0) with
    | none => refuse .badValue s
    | some i =>
      if c < 1 ∨ 10 < c then refuse .badValue s
      else if s.clearing then refuse .busy s
      else if c = 6 then accept (s.summaryBytes i) s
      else if 7 ≤ c then accept (mapQuarter (s.recipe i).map (c - 7)) s
      else
        match (sectionOf (byteAt d 1)).bind (s.recipe i).sectionBytes with
        | none => refuse .notFound s
        | some fields => accept fields s

/-- READ_RECIPE of a section (R25). -/
def execReadRecipe (p : Port) (t : Byte) (d : List Byte) (s : State) : Host.Outcome State Fault Refusal :=
  .next (takeCommand p ⟨0x21#8, t, d⟩ (readRecipeAnswer p d) s)

/-- READ_RECIPE with section code 6 (R26). -/
def execReadRecipeSummary (p : Port) (t : Byte) (d : List Byte) (s : State) :
    Host.Outcome State Fault Refusal :=
  .next (takeCommand p ⟨0x21#8, t, d⟩ (readRecipeAnswer p d) s)

/-- READ_RECIPE with section codes 7 to 10 (R26). -/
def execReadFeatureMap (p : Port) (t : Byte) (d : List Byte) (s : State) : Host.Outcome State Fault Refusal :=
  .next (takeCommand p ⟨0x21#8, t, d⟩ (readRecipeAnswer p d) s)

/-! ### Feature map (R28) -/

/-- R28: one entry of a WRITE_FEATURE_MAP: a check slot below the slot's count or NONE with its flag off. -/
def parseMapEntry (count : Nat) (check flag : Byte) : Option MapEntry :=
  match onOffOf flag with
  | none => none
  | some f =>
    if check = 0xFF#8 then if f then none else some .none
    else
      match finOf 16 check with
      | none => none
      | some k => if k.val < count then some (.checkSlot k f) else none

/-- The entries of a WRITE_FEATURE_MAP payload. -/
def parseMapEntries (count : Nat) (d : List Byte) : Option (List MapEntry) :=
  (List.range ((d.length - 2) / 2)).mapM fun i => parseMapEntry count (byteAt d (2 + 2 * i)) (byteAt d (3 + 2 * i))

/-- R28: a run of entries for consecutive codes from `first` replaces those of the map. -/
def writeRun (m : Vector MapEntry 256) (first : Nat) (es : List MapEntry) : Vector MapEntry 256 :=
  Vector.ofFn fun i => if i.val < first then m[i] else es.getD (i.val - first) m[i]

/-- WRITE_FEATURE_MAP (R28). -/
def writeFeatureMapAnswer (p : Port) (d : List Byte) (s : State) : Answer :=
  if p ≠ .line then refuse .wrongPort s
  else if ¬ (4 ≤ d.length ∧ d.length ≤ 200 ∧ d.length % 2 = 0) then refuse .badLength s
  else
    match finOf 8 (byteAt d 0) with
    | none => refuse .badValue s
    | some i =>
      let first := (byteAt d 1).toNat
      let r := s.recipe i
      if 254 < first + (d.length - 2) / 2 - 1 then refuse .badValue s
      else
        match parseMapEntries r.featuresD.length d with
        | none => refuse .badValue s
        | some es =>
          if s.clearing then refuse .busy s
          else if s.slotInUse i then refuse .inUse s
          else accept [] (s.setRecipe i { r with map := writeRun r.map first es }.edited)

/-- WRITE_FEATURE_MAP. -/
def execWriteFeatureMap (p : Port) (t : Byte) (d : List Byte) (s : State) :
    Host.Outcome State Fault Refusal :=
  .next (takeCommand p ⟨0x24#8, t, d⟩ (writeFeatureMapAnswer p d) s)

/-! ### Aliases (R30, R31) -/

/-- Replacing the alias table. -/
def State.setAliases (s : State) (t : List (Nat × Fin 8)) : State :=
  { s with store := { s.store with aliasTable := t } }

/-- R30: re-pointing an alias. -/
def repoint (t : List (Nat × Fin 8)) (a : Nat) (i : Fin 8) : List (Nat × Fin 8) :=
  t.map fun e => if e.1 = a then (a, i) else e

/-- BIND_ALIAS (R30). While CLEARING, a slot out of range is answered BAD_VALUE before BUSY (log 29). -/
def bindAliasAnswer (p : Port) (d : List Byte) (s : State) : Answer :=
  if p ≠ .line then refuse .wrongPort s
  else if d.length ≠ 3 then refuse .badLength s
  else
    let a := word16At d 0
    match finOf 8 (byteAt d 2) with
    | none => refuse .badValue s
    | some i =>
      let t := s.store.aliasTable
      if a = 0 then refuse .badValue s
      else if s.clearing then refuse .busy s
      else
        match aliasSlot t a with
        | some old => accept [toByte old.val] (s.setAliases (repoint t a i))
        | none =>
          if t.length < 24 then accept [0xFF#8] (s.setAliases (t ++ [(a, i)]))
          else refuse .full s

/-- BIND_ALIAS. -/
def execBindAlias (p : Port) (t : Byte) (d : List Byte) (s : State) : Host.Outcome State Fault Refusal :=
  .next (takeCommand p ⟨0x22#8, t, d⟩ (bindAliasAnswer p d) s)

/-- UNBIND_ALIAS (R31). -/
def unbindAliasAnswer (p : Port) (d : List Byte) (s : State) : Answer :=
  if p ≠ .line then refuse .wrongPort s
  else if d.length ≠ 2 then refuse .badLength s
  else
    let a := word16At d 0
    let t := s.store.aliasTable
    if a = 0 then refuse .badValue s
    else if s.clearing then refuse .busy s
    else
      match aliasSlot t a with
      | none => refuse .notFound s
      | some old => accept [toByte old.val] (s.setAliases (t.filter fun e => e.1 != a))

/-- UNBIND_ALIAS. -/
def execUnbindAlias (p : Port) (t : Byte) (d : List Byte) (s : State) : Host.Outcome State Fault Refusal :=
  .next (takeCommand p ⟨0x23#8, t, d⟩ (unbindAliasAnswer p d) s)

/-! ### Clearing (R34 to R36) -/

/-- CLEAR_RECIPES (R34). -/
def clearRecipesAnswer (p : Port) (d : List Byte) (s : State) : Answer :=
  if p ≠ .line then refuse .wrongPort s
  else if d.length ≠ 0 then refuse .badLength s
  else if s.clearing then refuse .busy s
  else if s.records ≠ [] ∨ s.lane0.path.state ≠ .empty ∨ s.lane1.path.state ≠ .empty then refuse .inUse s
  else accept [] { s with store := { s.store with clearTimer := some (after s.clock 250) } }

/-- CLEAR_RECIPES. -/
def execClearRecipes (p : Port) (t : Byte) (d : List Byte) (s : State) : Host.Outcome State Fault Refusal :=
  .next (takeCommand p ⟨0x25#8, t, d⟩ (clearRecipesAnswer p d) s)

/-- CLEAR_TIMER_EXPIRY (R36): the store returns to its power-on content and CLEAR_DONE is raised. -/
def execClearTimerExpiry (s : State) : Host.Outcome State Fault Refusal :=
  if timerDue s.clock s.store.clearTimer then
    .next (raise .clearDone none 0 0 { s with store := RecipeStore.reset })
  else .next s

end Sys2Proof.Machine
end

