-- ==== Sys2Proof/Machine/Link.lean ====
section
/-!
DEFINITION. The Link Interface (chapter 01): the receivers, the transmit queues, identification and status, the
event commands, the line settings, LINE_RESET, and power-on.
-/

namespace Sys2Proof.Machine

open Sys2Proof

/-! ### The receivers (R1 to R3) -/

/-- R1, R2: a frame is abandoned: HUNT, gap timer stopped, a frame error with its cause. -/
def abandonFrame (cause : Nat) (now : Time) (ps : PortState) : PortState :=
  frameError cause now { ps with rxState := .hunt, rxGap := none }

/-- R1: the receiver moves on inside a frame, and the 5 ms gap timer runs from this byte. -/
def moveOn (x : RxState) (now : Time) (ps : PortState) : PortState :=
  { ps with rxState := x, rxGap := some (after now 5) }

/-- R3: a well-formed frame joins the tail of the receive queue, or is dropped with cause 4 at 4 frames. -/
def queueFrame (f : Frame) (now : Time) (ps : PortState) : PortState :=
  if ps.rx.length < 4 then { ps with rx := ps.rx ++ [f] } else frameError 4 now ps

/-- R1: the second check byte: the frame is well formed when CHECK equals the CRC. -/
def endFrame (len kind tag : Byte) (payload : List Byte) (high low : Byte) (now : Time) (ps : PortState) :
    PortState :=
  if bytes16 (frameCheck len kind tag payload).toNat = [high, low] then
    queueFrame ⟨kind, tag, payload⟩ now { ps with rxState := .hunt, rxGap := none }
  else abandonFrame 3 now ps

/-- R1: a byte at a port's receiver; `stop` is false for a missing stop bit. A byte that could abandon the frame for two
causes at once, a LEN above 200 or a wrong second check byte with a missing stop bit, counts once, with cause 5: R2 names
no precedence (log 28). -/
def receiveByte (b : Byte) (stop : Bool) (now : Time) (ps : PortState) : PortState :=
  match ps.rxState with
  | .hunt => if stop && b = 0xA5#8 then moveOn .headerLen now ps else ps
  | .headerLen =>
    if !stop then abandonFrame 5 now ps
    else if 200 < b.toNat then abandonFrame 2 now ps
    else moveOn (.headerKind b) now ps
  | .headerKind len => if !stop then abandonFrame 5 now ps else moveOn (.headerTag len b) now ps
  | .headerTag len kind =>
    if !stop then abandonFrame 5 now ps
    else if len = 0#8 then moveOn (.checkHigh len kind b []) now ps
    else moveOn (.body len kind b []) now ps
  | .body len kind tag got =>
    if !stop then abandonFrame 5 now ps
    else if (got ++ [b]).length < len.toNat then moveOn (.body len kind tag (got ++ [b])) now ps
    else moveOn (.checkHigh len kind tag (got ++ [b])) now ps
  | .checkHigh len kind tag payload =>
    if !stop then abandonFrame 5 now ps else moveOn (.checkLow len kind tag payload b) now ps
  | .checkLow len kind tag payload high =>
    if !stop then abandonFrame 5 now ps else endFrame len kind tag payload high b now ps

/-- FRAME_BYTE_RECEIVED (R1). -/
def execFrameByteReceived (p : Port) (b : Byte) (stop : Bool) (s : State) : Host.Outcome State Fault Refusal :=
  .next (s.modPort p (receiveByte b stop s.clock))

/-- FRAME_RECEIVED (R1, R3): the byte that is the frame's last. -/
def execFrameReceived (p : Port) (b : Byte) (s : State) : Host.Outcome State Fault Refusal :=
  .next (s.modPort p (receiveByte b true s.clock))

/-- FRAME_GAP_EXPIRY (R1, R2): cause 1. -/
def execFrameGapExpiry (p : Port) (s : State) : Host.Outcome State Fault Refusal :=
  if timerDue s.clock (s.port p).rxGap then .next (s.modPort p (abandonFrame 1 s.clock)) else .next s

/-- FRAME_SENT (R6): the frame leaves the head of the transmit queue. -/
def execFrameSent (p : Port) (s : State) : Host.Outcome State Fault Refusal :=
  .next (s.modPort p fun ps => { ps with tx := ps.tx.tail })

/-! ### Command kinds (R4) -/

/-- The command kinds of the message-kind table (01, 1.4). -/
def isCommandKind (k : Byte) : Bool :=
  [0x01, 0x02, 0x03, 0x04, 0x05, 0x06, 0x07, 0x10, 0x11, 0x12, 0x13, 0x20, 0x21, 0x22, 0x23, 0x24, 0x25, 0x30,
    0x31, 0x32, 0x33, 0x34, 0x40, 0x41, 0x50, 0x51, 0x52, 0x53, 0x54, 0x60].contains k.toNat

/-- BAD_KIND_COMMAND (R4 check 1): only of a KIND that is no command kind. -/
def execBadKindCommand (p : Port) (k t : Byte) (d : List Byte) (s : State) : Host.Outcome State Fault Refusal :=
  if isCommandKind k then .next s else .next (takeCommand p ⟨k, t, d⟩ (refuse .badKind) s)

/-! ### Identification and status (R15, R16) -/

/-- IDENTIFY (R15): part code 7240, silicon revision 1, and the build code, which the spec does not give. -/
def identifyAnswer (d : List Byte) (s : State) : Answer :=
  if d.length ≠ 0 then refuse .badLength s
  else accept (bytes16 7240 ++ [1#8] ++ bytes16 Config.buildCode.toNat) s

/-- IDENTIFY. -/
def execIdentify (p : Port) (t : Byte) (d : List Byte) (s : State) : Host.Outcome State Fault Refusal :=
  .next (takeCommand p ⟨0x01#8, t, d⟩ (identifyAnswer d) s)

/-- The six fields of a lane in GET_STATUS (R16). -/
def State.laneStatus (s : State) (l : LaneId) : List Byte :=
  let x := s.lane l
  [toByte x.ctl.state.code, flagByte x.ctl.disablePending, flagByte x.ctl.serviceDue, toByte x.path.state.code,
    toByte x.ctl.queue.length] ++ bytes32 (s.boardSerial l)

/-- The GET_STATUS reply after the status (R16). -/
def State.statusBytes (s : State) : List Byte :=
  s.laneStatus .lane0 ++ s.laneStatus .lane1 ++
    [grantByte s.gate.grant, flagByte s.gate.ovenAccept, flagByte s.oven.layout.isSome,
      toByte s.oven.queue.length, toByte s.holds.length, toByte s.records.length, flagByte s.clearing] ++
    bytes16 s.line.frameErrors ++ bytes16 s.bench.frameErrors ++ bytes32 s.clock.toNat

/-- GET_STATUS (R16). -/
def getStatusAnswer (d : List Byte) (s : State) : Answer :=
  if d.length ≠ 0 then refuse .badLength s else accept s.statusBytes s

/-- GET_STATUS. -/
def execGetStatus (p : Port) (t : Byte) (d : List Byte) (s : State) : Host.Outcome State Fault Refusal :=
  .next (takeCommand p ⟨0x02#8, t, d⟩ (getStatusAnswer d) s)

/-! ### Event commands (R11 to R13) -/

/-- The count of a record, 0 for a clear flag (R9). -/
def recordCount (r : Option EventRecord) : Nat := (r.map (·.count)).getD 0

/-- R13: the record of one kind: kind, count, lane, serial, code, time; 0xFF and zeros when clear. -/
def recordBytes (i : Fin 19) (r : Option EventRecord) : List Byte :=
  toByte (i.val + 1) :: match r with
    | some r => [toByte r.count, laneByte r.detail.lane] ++ bytes32 r.detail.serial ++ bytes16 r.detail.code ++
        bytes32 r.detail.time.toNat
    | none => [0#8, 0xFF#8] ++ bytes32 0 ++ bytes16 0 ++ bytes32 0

/-- GET_EVENTS (R13). -/
def getEventsAnswer (p : Port) (d : List Byte) (s : State) : Answer :=
  if 1 < d.length then refuse .badLength s
  else if d.length = 0 then accept ((s.port p).events.toList.map fun r => toByte (recordCount r)) s
  else
    match eventIndexOf (byteAt d 0) with
    | none => refuse .badValue s
    | some i => accept (recordBytes i (s.port p).events[i]) s

/-- GET_EVENTS. -/
def execGetEvents (p : Port) (t : Byte) (d : List Byte) (s : State) : Host.Outcome State Fault Refusal :=
  .next (takeCommand p ⟨0x03#8, t, d⟩ (getEventsAnswer p d) s)

/-- R12: clearing the listed records one after the other: the records left, and the count each held before. -/
def ackAll (evs : Vector (Option EventRecord) 19) (ks : List (Fin 19)) :
    Vector (Option EventRecord) 19 × List Byte :=
  match ks with
  | [] => (evs, [])
  | k :: rest =>
    let r := ackAll (evs.set k none) rest
    (r.1, toByte (recordCount evs[k]) :: r.2)

/-- ACK_EVENTS (R12). -/
def ackEventsAnswer (p : Port) (d : List Byte) (s : State) : Answer :=
  if d.length < 1 ∨ 19 < d.length then refuse .badLength s
  else
    match d.mapM eventIndexOf with
    | none => refuse .badValue s
    | some ks =>
      let r := ackAll (s.port p).events ks
      accept r.2 (s.modPort p fun ps => { ps with events := r.1 })

/-- ACK_EVENTS. -/
def execAckEvents (p : Port) (t : Byte) (d : List Byte) (s : State) : Host.Outcome State Fault Refusal :=
  .next (takeCommand p ⟨0x04#8, t, d⟩ (ackEventsAnswer p d) s)

/-- SET_NOTICE_MASK (R11). -/
def setNoticeMaskAnswer (p : Port) (d : List Byte) (s : State) : Answer :=
  if 19 < d.length then refuse .badLength s
  else
    match d.mapM eventIndexOf with
    | none => refuse .badValue s
    | some ks => accept [] (s.modPort p fun ps => { ps with mask := setOf 19 fun i => ks.contains i })

/-- SET_NOTICE_MASK. -/
def execSetNoticeMask (p : Port) (t : Byte) (d : List Byte) (s : State) : Host.Outcome State Fault Refusal :=
  .next (takeCommand p ⟨0x05#8, t, d⟩ (setNoticeMaskAnswer p d) s)

/-! ### Line settings (R14) -/

/-- R14, table 1.6: the ranges of the four numeric settings. -/
def LineSettings.inRange (c : LineSettings) : Bool :=
  2000 ≤ c.transferTimeout && c.transferTimeout ≤ 60000 && c.entrySpacing ≤ 5000 && 500 ≤ c.zoneStaleLimit &&
    c.zoneStaleLimit ≤ 10000 && c.exitWindow ≤ 2000

/-- SET_LINE_CONFIG (R14): the zones are judged against the new limit, in zone order (log 17), and the gate
re-evaluates. -/
def setLineConfigAnswer (p : Port) (d : List Byte) (s : State) : Answer :=
  if p ≠ .line then refuse .wrongPort s
  else if d.length ≠ 9 then refuse .badLength s
  else
    match onOffOf (byteAt d 8) with
    | none => refuse .badValue s
    | some remote =>
      let c : LineSettings := ⟨word16At d 0, word16At d 2, word16At d 4, word16At d 6, remote⟩
      if !c.inRange then refuse .badValue s
      else accept [] (State.judgeZones { s with settings := c } (List.finRange 6)).reevaluate

/-- SET_LINE_CONFIG. -/
def execSetLineConfig (p : Port) (t : Byte) (d : List Byte) (s : State) : Host.Outcome State Fault Refusal :=
  .next (takeCommand p ⟨0x10#8, t, d⟩ (setLineConfigAnswer p d) s)

/-! ### LINE_RESET and power-on (R18, R83) -/

/-- R18: every record of a port cleared. -/
def PortState.clearEvents (ps : PortState) : PortState := { ps with events := Vector.replicate 19 none }

/-- R73: an announce queue emptied. -/
def State.emptyQueue (s : State) (l : LaneId) : State := s.modCtl l fun c => { c with queue := [] }

/-- R18: the line-reset effects of every block. The presence level is an input and stays. -/
def State.resetLine (s : State) : State :=
  let lanes := (((s.clearLane .lane0).clearLane .lane1).emptyQueue .lane0).emptyQueue .lane1
  { lanes with
    line := s.line.clearEvents
    bench := s.bench.clearEvents
    records := []
    gate := { Gate.reset with presence := s.gate.presence }
    oven := { s.oven with queue := [] }
    holds := [] }

/-- LINE_RESET (R18). -/
def lineResetAnswer (p : Port) (d : List Byte) (s : State) : Answer :=
  if p ≠ .line then refuse .wrongPort s
  else if d.length ≠ 0 then refuse .badLength s
  else accept [] s.resetLine

/-- LINE_RESET. -/
def execLineReset (p : Port) (t : Byte) (d : List Byte) (s : State) : Host.Outcome State Fault Refusal :=
  .next (takeCommand p ⟨0x33#8, t, d⟩ (lineResetAnswer p d) s)

/-- A Station Port after power-on, with the level its address lines have. -/
def Lane.powered (x : Lane) : Lane :=
  { Lane.reset with station := { StationPort.reset with address := x.station.address } }

/-- POWER_ON (R83): every block at its power-on value. The input levels (presence, slot addresses) are not the
part's state and stay (log 11); so do the commands waiting and the count of free values drawn. -/
def execPowerOn (s : State) : Host.Outcome State Fault Refusal :=
  .next { State.reset with
    lane0 := s.lane0.powered
    lane1 := s.lane1.powered
    gate := { Gate.reset with presence := s.gate.presence }
    freeCount := s.freeCount
    pending := s.pending }

end Sys2Proof.Machine
end

