-- ==== Sys2Proof/Machine/Clock.lean ====
section
/-!
DEFINITION. What the part does of itself when no command waits (log 1, log 2): the expiry that is due, the command
a port can take, and otherwise the passing of a millisecond of the Line Clock.
-/

namespace Sys2Proof.Machine

open Sys2Proof

/-- A command when its condition holds. -/
def whenDue (c : Bool) (i : Instr) : List Instr := if c then [i] else []

/-- The due expiries of a port's receiver (R1). -/
def State.duePort (s : State) (p : Port) : List Instr :=
  whenDue (timerDue s.clock (s.port p).rxGap) (.frameGapExpiry p)

/-- The due expiries of a lane (R66, R75, R88, R93, R115, R118). -/
def State.dueLane (s : State) (l : LaneId) : List Instr :=
  whenDue (s.stationGapDue l .startSlot) (.stationGapExpiry l .startSlot) ++
    whenDue (s.stationGapDue l .endSlot) (.stationGapExpiry l .endSlot) ++
    whenDue (s.stationGapDue l .inspectSlot) (.stationGapExpiry l .inspectSlot) ++
    whenDue (s.stationGapDue l .boardSlot) (.stationGapExpiry l .boardSlot) ++
    whenDue (timerDue s.clock (s.lane l).checker.paceTimer) (.paceTimerExpiry l) ++
    whenDue (timerDue s.clock (s.lane l).checker.checkTimer) (.checkTimerExpiry l) ++
    whenDue (timerDue s.clock (s.lane l).ctl.ejectTimer) (.ejectTimerExpiry l) ++
    whenDue (s.phaseDue l .openDelay) (.openDelayEnd l) ++
    whenDue (s.phaseDue l .opened) (.openEnd l) ++
    whenDue (s.phaseDue l .closing) (.closingEnd l) ++
    whenDue (timerDue s.clock (s.lane l).path.gapTimer) (.segmentGapExpiry l)

/-- The due expiries of a board the gate waits for (R143). -/
def State.dueWaiting (s : State) (src : Source) (deadline : Instr) : List Instr :=
  match s.gate.waiting src with
  | none => []
  | some w => whenDue (flashDue s.clock w) (.flashReadyExpiry src) ++ whenDue (timerDue s.clock w.deadline) deadline

/-- The due expiries of the gate (R143, R149). -/
def State.dueGate (s : State) : List Instr :=
  s.dueWaiting (.lane .lane0) (.laneDeadlineExpiry .lane0) ++
    s.dueWaiting (.lane .lane1) (.laneDeadlineExpiry .lane1) ++
    s.dueWaiting .returnStation .returnDeadlineExpiry ++
    whenDue (timerDue s.clock s.gate.transferTimer) .transferTimerExpiry

/-- The due expiries of the Cure Tracker (R155, R157, R160). -/
def State.dueOven (s : State) : List Instr :=
  whenDue (timerDue s.clock s.oven.sensorGap) .ovenSensorGapExpiry ++
    ((List.finRange 6).flatMap fun z => whenDue (s.staleDue z) (.zoneStaleExpiry z)) ++
    whenDue (reached s.clock s.oven.doseNext) .doseTick

/-- The due deadlines of holds that name a record (R173). -/
def State.dueHolds (s : State) : List Instr :=
  s.holds.flatMap fun e =>
    whenDue ((s.hold? e.serial).any (escalationDue s.clock) && (s.record? e.serial).isSome)
      (.escalationDeadlineExpiry e.serial)

/-- The spray end times that become old (R44). -/
def State.dueRecords (s : State) : List Instr :=
  s.records.flatMap fun b =>
    whenDue ((s.record? b.serial).any (sprayEndDue s.clock)) (.sprayEndTimeOld b.serial)

/-- Every expiry that is due. -/
def State.dueExpiries (s : State) : List Instr :=
  s.duePort .line ++ s.duePort .bench ++ whenDue (timerDue s.clock s.store.clearTimer) .clearTimerExpiry ++
    s.dueLane .lane0 ++ s.dueLane .lane1 ++ s.dueGate ++ s.dueOven ++ s.dueHolds ++ s.dueRecords

/-- R4: the command a port can take: the head of its receive queue, when it owes no reply. -/
def State.portCommand (s : State) (p : Port) : List Instr :=
  match (s.port p).rx with
  | [] => []
  | f :: _ => whenDue (takeable p f s) (commandOf p f)

/-- What the part does next of itself: the first due expiry, else the first command a port can take (log 2). -/
def State.ownCommand (s : State) : Option Instr :=
  (s.dueExpiries ++ s.portCommand .line ++ s.portCommand .bench).head?

/-- A millisecond passes: the Line Clock rises by 1 (R17), and the zones' ages with it, up to 10 000 ms (R157). -/
def State.tick (s : State) : State :=
  { s with
    clock := s.clock + 1#32
    oven := { s.oven with
      zones := Vector.ofFn fun z => { s.oven.zones[z] with age := satAdd 10000 s.oven.zones[z].age 1 } } }

end Sys2Proof.Machine
end

