-- ==== Sys2Proof/Machine/Dispatch.lean ====
section
/-!
DEFINITION. One arm per command: its effect on everything but the queue of commands waiting.
-/

namespace Sys2Proof.Machine

open Sys2Proof

def exec (i : Instr) (s : State) : Host.Outcome State Fault Refusal :=
  match i with
  | .powerOn => Sys2Proof.Machine.execPowerOn s
  | .frameReceived p b => Sys2Proof.Machine.execFrameReceived p b s
  | .frameGapExpiry p => Sys2Proof.Machine.execFrameGapExpiry p s
  | .frameSent p => Sys2Proof.Machine.execFrameSent p s
  | .badKindCommand p k t d => Sys2Proof.Machine.execBadKindCommand p k t d s
  | .identify p t d => Sys2Proof.Machine.execIdentify p t d s
  | .getStatus p t d => Sys2Proof.Machine.execGetStatus p t d s
  | .getEvents p t d => Sys2Proof.Machine.execGetEvents p t d s
  | .ackEvents p t d => Sys2Proof.Machine.execAckEvents p t d s
  | .setNoticeMask p t d => Sys2Proof.Machine.execSetNoticeMask p t d s
  | .getBoard p t d => Sys2Proof.Machine.execGetBoard p t d s
  | .listHolds p t d => Sys2Proof.Machine.execListHolds p t d s
  | .setLineConfig p t d => Sys2Proof.Machine.execSetLineConfig p t d s
  | .setLaneConfig p t d => Sys2Proof.Machine.execSetLaneConfig p t d s
  | .setOvenLayout p t d => Sys2Proof.Machine.execSetOvenLayout p t d s
  | .ovenAccept p t d => Sys2Proof.Machine.execOvenAccept p t d s
  | .writeRecipe p t d => Sys2Proof.Machine.execWriteRecipe p t d s
  | .readRecipe p t d => Sys2Proof.Machine.execReadRecipe p t d s
  | .readRecipeSummary p t d => Sys2Proof.Machine.execReadRecipeSummary p t d s
  | .readFeatureMap p t d => Sys2Proof.Machine.execReadFeatureMap p t d s
  | .bindAlias p t d => Sys2Proof.Machine.execBindAlias p t d s
  | .unbindAlias p t d => Sys2Proof.Machine.execUnbindAlias p t d s
  | .writeFeatureMap p t d => Sys2Proof.Machine.execWriteFeatureMap p t d s
  | .clearRecipes p t d => Sys2Proof.Machine.execClearRecipes p t d s
  | .clearTimerExpiry => Sys2Proof.Machine.execClearTimerExpiry s
  | .laneEnable p t d => Sys2Proof.Machine.execLaneEnable p t d s
  | .laneDisable p t d => Sys2Proof.Machine.execLaneDisable p t d s
  | .laneReset p t d => Sys2Proof.Machine.execLaneReset p t d s
  | .lineReset p t d => Sys2Proof.Machine.execLineReset p t d s
  | .clearNozzleCount p t d => Sys2Proof.Machine.execClearNozzleCount p t d s
  | .announce p t d => Sys2Proof.Machine.execAnnounce p t d s
  | .withdraw p t d => Sys2Proof.Machine.execWithdraw p t d s
  | .pathBegin p t d => Sys2Proof.Machine.execPathBegin p t d s
  | .segments p t d => Sys2Proof.Machine.execSegments p t d s
  | .pathEnd p t d => Sys2Proof.Machine.execPathEnd p t d s
  | .pathKeep p t d => Sys2Proof.Machine.execPathKeep p t d s
  | .pathDiscard p t d => Sys2Proof.Machine.execPathDiscard p t d s
  | .disposeRelease p t d => Sys2Proof.Machine.execDisposeRelease p t d s
  | .disposeScrap p t d => Sys2Proof.Machine.execDisposeScrap p t d s
  | .disposeRespray p t d => Sys2Proof.Machine.execDisposeRespray p t d s
  | .disposeRecure p t d => Sys2Proof.Machine.execDisposeRecure p t d s
  | .slotAddressChange l slot => Sys2Proof.Machine.execSlotAddressChange l slot s
  | .stationGapExpiry l slot => Sys2Proof.Machine.execStationGapExpiry l slot s
  | .startStrobe l b => Sys2Proof.Machine.execStartStrobe l b s
  | .endStrobe l b => Sys2Proof.Machine.execEndStrobe l b s
  | .inspectReading l b => Sys2Proof.Machine.execInspectReading l b s
  | .arrived l b => Sys2Proof.Machine.execArrived l b s
  | .cleared l b => Sys2Proof.Machine.execCleared l b s
  | .paceTimerExpiry l => Sys2Proof.Machine.execPaceTimerExpiry l s
  | .checkTimerExpiry l => Sys2Proof.Machine.execCheckTimerExpiry l s
  | .ejectTimerExpiry l => Sys2Proof.Machine.execEjectTimerExpiry l s
  | .openDelayEnd l => Sys2Proof.Machine.execOpenDelayEnd l s
  | .openEnd l => Sys2Proof.Machine.execOpenEnd l s
  | .closingEnd l => Sys2Proof.Machine.execClosingEnd l s
  | .segmentGapExpiry l => Sys2Proof.Machine.execSegmentGapExpiry l s
  | .flowPulse l => Sys2Proof.Machine.execFlowPulse l s
  | .flashReadyExpiry src => Sys2Proof.Machine.execFlashReadyExpiry src s
  | .laneDeadlineExpiry l => Sys2Proof.Machine.execLaneDeadlineExpiry l s
  | .returnDeadlineExpiry => Sys2Proof.Machine.execReturnDeadlineExpiry s
  | .returnPresenceChange level => Sys2Proof.Machine.execReturnPresenceChange level s
  | .ovenEntryEvent => Sys2Proof.Machine.execOvenEntryEvent s
  | .transferTimerExpiry => Sys2Proof.Machine.execTransferTimerExpiry s
  | .encoderPulse => Sys2Proof.Machine.execEncoderPulse s
  | .ovenSensorRecord b => Sys2Proof.Machine.execOvenSensorRecord b s
  | .ovenSensorGapExpiry => Sys2Proof.Machine.execOvenSensorGapExpiry s
  | .zoneStaleExpiry z => Sys2Proof.Machine.execZoneStaleExpiry z s
  | .doseTick => Sys2Proof.Machine.execDoseTick s
  | .ovenExitEvent => Sys2Proof.Machine.execOvenExitEvent s
  | .escalationDeadlineExpiry n => Sys2Proof.Machine.execEscalationDeadlineExpiry n s
  | .sprayEndTimeOld n => Sys2Proof.Machine.execSprayEndTimeOld n s
  | .frameByteReceived p b stop => Sys2Proof.Machine.execFrameByteReceived p b stop s
  | .stationByteWritten l slot b => Sys2Proof.Machine.execStationByteWritten l slot b s
  | .ovenSensorByteReceived b stop => Sys2Proof.Machine.execOvenSensorByteReceived b stop s

end Sys2Proof.Machine
end

