-- ==== Sys2Proof/Safety.lean ====
section
/-!
DEFINITION. What the statements about the part speak of: a command ready to be taken and the state that answers it,
and the invariants of a sound state, block by block.
-/

namespace Sys2Proof.Machine

open Sys2Proof

/-! ### Taking and answering (R4 to R6) -/

/-- Port `p` can take frame `f` now: it heads the receive queue, before `rest`, and no reply waits in or is being
sent from the transmit queue (R4). -/
def State.Ready (s : State) (p : Port) (f : Frame) (rest : List Frame) : Prop :=
  (s.port p).rx = f :: rest ∧ ∀ x ∈ (s.port p).tx, x.notice = true

/-- The reply to `f` (R5): KIND plus 0x80, the same TAG, the status and, after it, the fields. -/
def reply (f : Frame) (status : Status) (data : List Byte) : TxFrame :=
  ⟨false, ⟨f.kind + 0x80#8, f.tag, toByte (statusCode status) :: data⟩⟩

/-- The state once a frame has left port `p`'s receive queue, `rest` being left there (R4). -/
def State.taken (s : State) (p : Port) (rest : List Frame) : State := s.modPort p fun ps => { ps with rx := rest }

/-- State `t`, the effects of a command, with its reply in the transmit queue: behind the `n` notices that were there
before, ahead of those the effects queued (R6). -/
def State.answered (t : State) (p : Port) (n : Nat) (r : TxFrame) : State :=
  t.modPort p fun ps => { ps with tx := ps.tx.take n ++ r :: ps.tx.drop n }

/-- How many notices a port's transmit queue holds ahead of the next reply. -/
def State.txLength (s : State) (p : Port) : Nat := (s.port p).tx.length

/-- The commands that carry frame `f` from outside into port `p`, byte by byte, with stop bits (R1, R3). -/
def sending (p : Port) (f : Frame) : List Instr :=
  (wire f).dropLast.map (fun b => .frameByteReceived p b true) ++
    (wire f).getLast?.toList.map (fun b => .frameReceived p b)

/-! ### The checks before a command's own conditions (R4, R8) -/

/-- R4 check 3: the status a command kind's LEN is refused with, `none` where its length step passes. Three kinds settle
their length by fields of the payload, whose own checks stand within the step: SET_OVEN_LAYOUT (R153), WRITE_RECIPE (R24)
and DISPOSE (R174). -/
def lengthStep (kind : Byte) (d : List Byte) : Option Status :=
  let n := d.length
  let lengthIs (ok : Bool) : Option Status := if ok then none else some .badLength
  match kind.toNat with
  | 0x01 | 0x02 | 0x07 | 0x25 | 0x33 => lengthIs (n = 0)
  | 0x03 => lengthIs (n ≤ 1)
  | 0x04 => lengthIs (1 ≤ n && n ≤ 19)
  | 0x05 => lengthIs (n ≤ 19)
  | 0x06 | 0x41 => lengthIs (n = 4)
  | 0x10 => lengthIs (n = 9)
  | 0x11 => lengthIs (n = 12)
  | 0x13 | 0x30 | 0x31 | 0x32 | 0x34 | 0x52 | 0x54 => lengthIs (n = 1)
  | 0x21 | 0x23 | 0x53 => lengthIs (n = 2)
  | 0x22 | 0x50 => lengthIs (n = 3)
  | 0x24 => lengthIs (4 ≤ n && n ≤ 200 && n % 2 = 0)
  | 0x40 => lengthIs (n = 7)
  | 0x51 => lengthIs (n ∈ [16, 31, 46, 61, 76, 91, 106, 121])
  | 0x12 =>
    let k := (byteAt d 0).toNat
    if n ∉ [5, 7, 9, 11, 13, 15] then some .badLength
    else if k < 1 ∨ 6 < k then some .badValue
    else lengthIs (n = 3 + 2 * k)
  | 0x20 =>
    let count := (byteAt d 2).toNat
    if n < 3 then some .badLength
    else
      match (byteAt d 1).toNat with
      | 1 => lengthIs (n = 2 + 5)
      | 2 => if count < 1 ∨ 12 < count then some .badValue else lengthIs (n = 2 + (1 + 6 * count))
      | 3 => if 16 < count then some .badValue else lengthIs (n = 2 + (1 + count))
      | 4 => lengthIs (n = 2 + 7)
      | 5 => lengthIs (n = 2 + 12)
      | _ => some .badValue
  | 0x60 =>
    let count := (byteAt d 6).toNat
    if n < 5 then some .badLength
    else
      match (byteAt d 4).toNat with
      | 0 | 1 | 3 => lengthIs (n = 5)
      | 2 => if n < 7 then some .badLength else if 12 < count then some .badValue else lengthIs (n = 7 + count)
      | _ => some .badValue
  | _ => none

/-- R8, and R174 for the areas of a RESPRAY: a recurring field of the payload, at its place in the message-kind table,
fails its check. -/
def CommonFieldFails (kind : Byte) (d : List Byte) : Prop :=
  let laneOrFlag (i : Nat) : Prop := 1 < (byteAt d i).toNat
  let serial (i : Nat) : Prop := word32At d i = 0
  let alias_ (i : Nat) : Prop := word16At d i = 0
  match kind.toNat with
  | 0x03 | 0x04 | 0x05 => ∃ b ∈ d, b.toNat < 1 ∨ 19 < b.toNat
  | 0x06 | 0x41 => serial 0
  | 0x10 => laneOrFlag 8
  | 0x11 | 0x13 | 0x30 | 0x31 | 0x32 | 0x34 | 0x51 | 0x52 | 0x54 => laneOrFlag 0
  | 0x22 | 0x23 => alias_ 0
  | 0x40 => laneOrFlag 0 ∨ serial 1 ∨ alias_ 5
  | 0x50 => laneOrFlag 0 ∨ alias_ 1
  | 0x53 => laneOrFlag 0 ∨ laneOrFlag 1
  | 0x60 => serial 0 ∨ (byteAt d 4 = 2#8 ∧ (laneOrFlag 5 ∨ ∃ b ∈ d.drop 7, 11 < b.toNat))
  | _ => False

/-! ### The ports -/

/-- R2, R3, R6, R9: the queues of a port hold no more than they can, at most one reply waits, a raised record's
count is 1 to 255 and the frame error count is 16 bits wide. -/
structure PortState.Sound (ps : PortState) : Prop where
  rx : ps.rx.length ≤ 4
  notices : noticeCount ps ≤ 16
  replies : (ps.tx.filter fun x => !x.notice).length ≤ 1
  counts : ∀ (i : Fin 19) (r : EventRecord), ps.events[i] = some r → 1 ≤ r.count ∧ r.count ≤ 255
  errors : ps.frameErrors ≤ 65535

/-! ### The Recipe Store -/

/-- R19, R21, R22, R27: a slot's areas and check slots are as many as a section can hold, the edit count is 16 bits
wide, code 255 and no other is END, and a map entry names a check slot below the slot's count. -/
structure RecipeSlot.Sound (r : RecipeSlot) : Prop where
  areas : ∀ a, r.areas = some a → 1 ≤ a.length ∧ a.length ≤ 12
  features : r.featuresD.length ≤ 16
  edits : r.editCount ≤ 65535
  ending : ∀ i : Fin 256, r.map[i] = .endMark ↔ i.val = 255
  named : ∀ (i : Fin 256) (k : Fin 16) (f : Bool), r.map[i] = .checkSlot k f → k.val < r.featuresD.length

/-- R19, R29: every slot is sound; the alias table holds at most 24 entries, each alias 1 to 65 535 once. -/
structure RecipeStore.Sound (r : RecipeStore) : Prop where
  slots : ∀ i : Fin 8, r.slots[i].Sound
  entries : r.aliasTable.length ≤ 24
  once : (r.aliasTable.map (·.1)).Nodup
  range : ∀ e ∈ r.aliasTable, 1 ≤ e.1 ∧ e.1 ≤ 65535

/-- The code of a section (table 2.2). -/
def SectionCode.code (c : SectionCode) : Byte :=
  match c with
  | .material => 1#8
  | .areas => 2#8
  | .features => 3#8
  | .cure => 4#8
  | .timing => 5#8

/-- The fields of a section, as a slot holds them, lie in the ranges of R20 to R23. -/
def SectionCode.InRange (c : SectionCode) (r : RecipeSlot) : Prop :=
  match c with
  | .material => ∀ m, r.material = some m → 1 ≤ m.pulseVolume ∧ m.pulseVolume ≤ 4095 ∧ 1 ≤ m.solids ∧
      m.solids ≤ 1000 ∧ 1 ≤ m.flowTolerance ∧ m.flowTolerance ≤ 50
  | .areas => ∀ a, r.areas = some a → 1 ≤ a.length ∧ a.length ≤ 12 ∧ ∀ x ∈ a, 1 ≤ x.area ∧ x.area ≤ 65535 ∧
      1 ≤ x.filmMin ∧ x.filmMin ≤ x.filmMax ∧ x.filmMax ≤ 65535
  | .features => ∀ cs, r.features = some cs → cs.length ≤ 16
  | .cure => ∀ x, r.cure = some x → 400 ≤ x.refTemp ∧ x.refTemp ≤ 2000 ∧ 1 ≤ x.targetMinutes ∧
      x.targetMinutes ≤ 240 ∧ 100 ≤ x.overCure ∧ x.overCure ≤ 400 ∧ x.overheatMargin ≤ 300
  | .timing => ∀ x, r.timing = some x → 1 ≤ x.inspectTimeout ∧ x.inspectTimeout ≤ 120 ∧ x.flashOff ≤ x.maxOpen ∧
      x.flashOff ≤ 1800 ∧ x.maxOpen ≤ 7200 ∧ 60 ≤ x.wetHold ∧ x.wetHold ≤ 86400 ∧ x.dripLimit ≤ 65535

/-- R20 to R23, on the bytes of a WRITE_RECIPE payload whose length step has passed: every section field lies in its
range. -/
def SectionBytesInRange (d : List Byte) : Prop :=
  let byte (i : Nat) : Nat := (byteAt d i).toNat
  let word (i : Nat) : Nat := word16At d i
  match byte 1 with
  | 1 => 1 ≤ word 2 ∧ word 2 ≤ 4095 ∧ 1 ≤ word 4 ∧ word 4 ≤ 1000 ∧ 1 ≤ byte 6 ∧ byte 6 ≤ 50
  | 2 => ∀ i < byte 2, 1 ≤ word (3 + 6 * i) ∧ 1 ≤ word (5 + 6 * i) ∧ word (5 + 6 * i) ≤ word (7 + 6 * i)
  | 3 => ∀ i < byte 2, byte (3 + i) ≤ 2
  | 4 => 400 ≤ word 2 ∧ word 2 ≤ 2000 ∧ 1 ≤ byte 4 ∧ byte 4 ≤ 240 ∧ 100 ≤ word 5 ∧ word 5 ≤ 400 ∧ word 7 ≤ 300
  | 5 => 1 ≤ byte 2 ∧ byte 2 ≤ 120 ∧ word 3 ≤ 1800 ∧ word 3 ≤ word 5 ∧ word 5 ≤ 7200 ∧ 60 ≤ word32At d 7 ∧
      word32At d 7 ≤ 86400 ∧ byte 13 ≤ 1
  | _ => False

/-- R28: entry `j` of a WRITE_FEATURE_MAP payload is one the slot, with `count` check slots, cannot take. -/
def MapEntryFails (count : Nat) (d : List Byte) (j : Nat) : Prop :=
  let check := (byteAt d (2 + 2 * j)).toNat
  let flag := (byteAt d (3 + 2 * j)).toNat
  (15 < check ∧ check ≠ 255) ∨ 1 < flag ∨ (check = 255 ∧ flag = 1) ∨ (check ≤ 15 ∧ count ≤ check)

/-- Slot `r` with a section as slot `src` has it; a smaller check-slot count than `r` had turns the map entries at or
beyond it to NONE (R22). -/
def SectionCode.put (c : SectionCode) (src r : RecipeSlot) : RecipeSlot :=
  match c with
  | .material => { r with material := src.material }
  | .areas => { r with areas := src.areas }
  | .features => { r with
      features := src.features
      map := if src.featuresD.length < r.featuresD.length then
          Vector.ofFn fun i => match r.map[i] with
            | .checkSlot k f => if k.val < src.featuresD.length then .checkSlot k f else .none
            | .none => .none
            | .endMark => .endMark
        else r.map }
  | .cure => { r with cure := src.cure }
  | .timing => { r with timing := src.timing }

/-! ### Counts, queues and settings of a lane -/

/-- R58, R68, R69, R77, R81, R89, R102, R123: the queues of a lane hold no more than they can, its settings lie in
their ranges and its counts stay in their widths. -/
structure Lane.Within (x : Lane) : Prop where
  announced : x.ctl.queue.length ≤ 4
  settings : x.ctl.settings.inRange = true
  nozzle : x.ctl.nozzleCount ≤ 65535
  readings : x.station.inspectQueue.length ≤ 4
  overruns : x.station.startOverruns ≤ 255 ∧ x.station.endOverruns ≤ 255 ∧ x.station.inspectOverruns ≤ 255 ∧
    x.station.boardOverruns ≤ 255
  late : x.checker.lateCount ≤ 65535
  unmapped : x.checker.unmappedCount ≤ 65535
  loaded : x.path.queue.length ≤ 128
  pulses : x.meter.segPulses ≤ 65535
  idle : x.meter.idleDrip ≤ 65535

/-- R34, R35: while the store is CLEARING there is no board record and both paths are EMPTY. -/
def State.ClearingFindsNoReference (s : State) : Prop :=
  s.store.clearTimer.isSome = true →
    s.records = [] ∧ s.lane0.path.state = .empty ∧ s.lane1.path.state = .empty

/-! ### Records, holds and the oven -/

/-- R40, R44: the widths of a record's numbers, and at most two passes of rework (R174). -/
structure BoardRecord.Within (b : BoardRecord) : Prop where
  serial : 1 ≤ b.serial ∧ b.serial < 2 ^ 32
  rework : b.rework ≤ 2
  dose : b.dose < 2 ^ 32
  drip : b.drip ≤ 65535
  tallies : ∀ a : Fin 12, b.tallies[a] < 2 ^ 32

/-- R14, R39, R144, R158, R168: at most 32 records with distinct serials, at most 16 holds, at most 12 boards in
the oven, their positions non-increasing from head to tail, and room for one more while a grant is out, and the line
settings in their ranges. -/
structure State.Within (s : State) : Prop where
  records : s.records.length ≤ 32
  distinct : (s.records.map (·.serial)).Nodup
  each : ∀ b ∈ s.records, b.Within
  holds : s.holds.length ≤ 16
  oven : s.oven.queue.length ≤ 12
  granted : s.gate.grant.isSome = true → s.oven.queue.length < 12
  positions : ∀ e ∈ s.oven.queue, e.position < 2 ^ 32
  ordered : s.oven.queue.Pairwise fun ahead behind => behind.position ≤ ahead.position
  ages : ∀ z : Fin 6, s.oven.zones[z].age ≤ 10000
  settings : s.settings.inRange = true

/-! ### The path of a lane -/

/-- R101, R102, R107, R109: an EMPTY path has no slot, no segment, no n and keep off; any other has a slot; the
loaded records are numbered 1, 2, 3 and on; exactly a COMPLETE path has an n, the number of its last record. -/
structure PathExec.Numbered (pe : PathExec) : Prop where
  slot : pe.slot.isSome = true ↔ pe.state ≠ .empty
  none : pe.state = .empty → pe.queue = [] ∧ pe.keep = false
  numbers : pe.queue.map (·.number) = (List.range pe.queue.length).map (· + 1)
  last : pe.last = if pe.state = .complete then some pe.queue.length else Option.none

/-! ### A lane's blocks against its lane state -/

/-- The lane states in which a lane has a current board (R57, R63, R65). -/
def LaneState.holdsBoard (x : LaneState) : Bool :=
  match x with
  | .checking | .armed | .spraying | .exitWait | .transfer | .blocked => true
  | .off | .idle | .ejecting | .fault => false

/-- What runs in a lane follows its lane state: the check runs in CHECKING (R86), the eject timer in EJECTING
(R66), the sequencer in SPRAYING for the loaded segment at the cursor (R115), the gap timer in SPRAYING with the
sequencer CLOSED (R118); a START waits only for a running sequencer (R79), readings only in CHECKING (R81); a lane in
OFF or IDLE has no disable pending and nothing in its BOARD slot (R60, R62), and no CLEARED waits there (R82); an entry at the gate stands in EXIT_WAIT
(R141), and the grant in TRANSFER (R147). -/
structure State.LaneSound (s : State) (l : LaneId) : Prop where
  path : (s.lane l).path.Numbered
  check : (s.lane l).checker.checkTimer.isSome = true ↔ (s.lane l).ctl.state = .checking
  pace : (s.lane l).checker.paceTimer.isSome = true → (s.lane l).ctl.state = .checking
  eject : (s.lane l).ctl.ejectTimer.isSome = true ↔ (s.lane l).ctl.state = .ejecting
  running : (s.lane l).path.seq ≠ .closed → (s.lane l).ctl.state = .spraying ∧
    (s.lane l).path.executing = some (s.lane l).path.cursor ∧ 1 ≤ (s.lane l).path.cursor ∧
    (s.lane l).path.cursor ≤ (s.lane l).path.queue.length
  gap : (s.lane l).path.gapTimer.isSome = true → (s.lane l).ctl.state = .spraying ∧ (s.lane l).path.seq = .closed
  start : (s.lane l).station.startSlot.isSome = true → (s.lane l).path.seq ≠ .closed
  ends : (s.lane l).station.endSlot = none
  readings : (s.lane l).station.inspectQueue ≠ [] → (s.lane l).ctl.state = .checking
  rest : (s.lane l).ctl.state = .off ∨ (s.lane l).ctl.state = .idle →
    (s.lane l).ctl.disablePending = false ∧ (s.lane l).station.boardSlot = Option.none
  report : (s.lane l).station.boardSlot ≠ some .cleared
  exit : (s.gate.exit l).isSome = true ↔ (s.lane l).ctl.state = .exitWait
  grant : s.gate.grant = some (.lane l) ↔ (s.lane l).ctl.state = .transfer

/-! ### Segment records and the merge gate's claims -/

/-- R102: a segment record as SEGMENTS carries it. -/
def Segment.bytes (x : Segment) : List Byte :=
  bytes16 x.number ++ [toByte x.area.val, flagByte (decide (x.valve = .atomize))] ++ bytes16 x.length ++
    bytes16 x.speed ++ bytes16 x.flow ++ [toByte x.tags.length] ++ x.tags.map (fun k => toByte k.val) ++
    List.replicate (4 - x.tags.length) 0xFF#8

/-- R103: what a segment record must satisfy for a recipe slot. -/
def Segment.Fits (x : Segment) (r : RecipeSlot) : Prop :=
  x.area.val < r.areasD.length ∧ 1 ≤ x.length ∧ x.length ≤ 65535 ∧ 1 ≤ x.speed ∧ x.speed ≤ 500 ∧ 1 ≤ x.flow ∧
    x.flow ≤ 65535 ∧ x.tags.length ≤ 4 ∧ x.tags.Nodup ∧ ∀ k ∈ x.tags, k.val < r.featuresD.length

/-- R102, R103: a 15-byte segment record as SEGMENTS carries it, numbered `number` by its place, fails a condition for a
recipe slot. -/
def SegmentBytesFail (r : RecipeSlot) (number : Nat) (x : List Byte) : Prop :=
  let byte (i : Nat) : Nat := (byteAt x i).toNat
  word16At x 0 ≠ number ∨ r.areasD.length ≤ byte 2 ∨ 1 < byte 3 ∨ word16At x 4 = 0 ∨ word16At x 6 < 1 ∨
    500 < word16At x 6 ∨ word16At x 8 = 0 ∨ 4 < byte 10 ∨ (∃ i < byte 10, r.featuresD.length ≤ byte (11 + i)) ∨
    (∃ i < byte 10, ∃ j < i, byte (11 + j) = byte (11 + i)) ∨ ∃ i < 4, byte 10 ≤ i ∧ byte (11 + i) ≠ 255

/-- R140, R142: `w` is the eligible entry of source `src`; the return station's is present only while presence is
asserted and its board is not the granted one. -/
def State.Claims (s : State) (src : Source) (w : Waiting) : Prop :=
  w.eligible = true ∧ match src with
    | .lane l => s.gate.exit l = some w
    | .returnStation =>
      s.gate.station = some w ∧ s.gate.presence = true ∧ s.gate.grant ≠ some .returnStation

/-- R146: the order of claims: the time to the deadline, 0 once it is reached, none last; then Lane 0, Lane 1 and the
return station. -/
def State.rank (s : State) (src : Source) (w : Waiting) : Nat :=
  3 * (match w.deadline with
    | none => 2 ^ 31
    | some t => if (t - s.clock).toNat < 2 ^ 31 then (t - s.clock).toNat else 0) +
  match src with
    | .lane .lane0 => 0
    | .lane .lane1 => 1
    | .returnStation => 2

/-! ### What a valve may spray -/

/-- R114: a segment is not suppressed for a board: its area is in the pass area set, and every tagged SUPPRESS check slot
has the verdict PRESENT. -/
def State.Unsuppressed (s : State) (b : BoardRecord) (seg : Segment) : Prop :=
  b.passAreas[seg.area] = true ∧
    ∀ k ∈ seg.tags, (s.store.slots[b.slot]).featuresD[k.val]? = some .suppress → b.verdicts[k] = .present

/-- R113, R115: the segment a lane's sequencer runs is not suppressed for the lane's board. -/
def State.RunsUnsuppressed (s : State) (l : LaneId) : Prop :=
  ∀ (b : BoardRecord) (seg : Segment), s.board l = some b → (s.lane l).path.seq ≠ .closed →
    (s.lane l).path.executing = some seg.number →
    (s.lane l).path.queue.find? (fun x => decide (x.number = seg.number)) = some seg → s.Unsuppressed b seg

/-! ### Every board in its place -/

/-- The record of serial `n` is at location `x`. -/
def State.At (s : State) (n : Serial) (x : Location) : Prop := ∃ b ∈ s.records, b.serial = n ∧ b.location = x

/-- R39, R41, R58, R142, R158, R168: serials are distinct; the boards of each location are those of the structure
that keeps it: the announce queues, the lanes' current boards, the return station, the oven's occupancy queue and
the hold table; and exactly the boards at HOLD are HELD. -/
structure State.Placed (s : State) : Prop where
  distinct : (s.records.map (·.serial)).Nodup
  lanes : ∀ l, s.LaneSound l
  queued : ∀ b ∈ s.records, b.location = .announceQueue ↔ ∃ e ∈ (s.lane b.lane).ctl.queue, e.serial = b.serial
  queueKnown : ∀ l, ∀ e ∈ (s.lane l).ctl.queue, ∃ b ∈ s.records, b.serial = e.serial ∧ b.lane = l
  board : ∀ l, (s.lane l).ctl.state.holdsBoard = true ↔ ∃ b ∈ s.records, b.location = .lane l
  single : ∀ l, ∀ b ∈ s.records, ∀ c ∈ s.records, b.location = .lane l → c.location = .lane l → b = c
  exits : ∀ l w, s.gate.exit l = some w → s.At w.serial (.lane l)
  station : ∀ n, s.At n .returnStation ↔ s.gate.station.map (·.serial) = some n
  oven : ∀ n, s.At n .oven ↔ ∃ e ∈ s.oven.queue, e.serial = n
  ovenOnce : (s.oven.queue.map (·.serial)).Nodup
  hold : ∀ n, s.At n .hold ↔ ∃ e ∈ s.holds, e.serial = n
  holdOnce : (s.holds.map (·.serial)).Nodup
  held : ∀ b ∈ s.records, b.stage = .held ↔ b.location = .hold
  returning : s.gate.grant = some .returnStation → s.gate.station.isSome = true

end Sys2Proof.Machine
end

