-- ==== Sys2Proof/WellFormed.lean ====
section
/-!
DEFINITION. Which commands are well formed: a command taken from a receive queue is the one its own frame
spells, and its payload fits a frame. The other rows' operands are in range by their types, but for the
serials, which are 32 bits wide.
-/

namespace Sys2Proof

/-- R1: LEN is 0 to 200. -/
def Frame.fits (f : Frame) : Bool := f.payload.length ≤ 200

/-- A command is well formed when its frame fits R1 and is taken as this very row (01 table 1.4), and a
serial it names is a board serial, 1 to 2³² − 1 (R39). -/
def Instr.wellFormed (i : Instr) : Bool :=
  match i with
  | .escalationDeadlineExpiry n => 0 < n && n < 2 ^ 32
  | .sprayEndTimeOld n => 0 < n && n < 2 ^ 32
  | _ =>
    match frameOf i with
    | some (p, f) => f.fits && commandOf p f = i
    | none => true

end Sys2Proof
end

