-- ==== Sys2Proof/Certificates/Slice0/Obligations.lean ====
section
/-!
DEFINITION. The statements about the part, for the provers. Throughout, a command statement speaks of a port that can
take its frame (`State.Ready`), of the state `u` with the frame taken, and of the state that answers it.
-/

open Sys2Proof Machine

/-! ### The step -/

/-- A step with a command waiting runs that command on the state with the rest of the queue. -/
def Obligations.StepRunsFrontCommand : Prop :=
  ∀ (c : Instr) (rest : List Instr) (s : State),
    step { s with pending := c :: rest } = exec c { s with pending := rest }

/-- On an empty queue the part does what it does of itself, and where there is nothing to do a millisecond of the Line
Clock passes. This is the model's choice (log 1, log 2). -/
def Obligations.EmptyQueueRunsDueWorkElseTick : Prop :=
  ∀ s : State, s.pending = [] →
    (∀ c, s.ownCommand = some c → step s = exec c s) ∧
    (s.ownCommand = none → step s = .next { s with
      clock := s.clock + 1#32
      oven := { s.oven with
        zones := Vector.ofFn fun z => { s.oven.zones[z] with age := min 10000 (s.oven.zones[z].age + 1) } } })

/-! ### Frames -/

/-- Every frame is taken as the row whose own frame it is, and a frame that fits R1 is taken as a well-formed row. -/
def Obligations.CommandSpellsItsFrame : Prop :=
  ∀ (p : Port) (f : Frame), frameOf (commandOf p f) = some (p, f) ∧
    (f.payload.length ≤ 200 → (commandOf p f).wellFormed = true)

/-- The receiver reads back every frame the wire form spells: sent byte by byte to a receiver in HUNT, a frame of up
to 200 payload bytes joins the tail of a receive queue with room, and is dropped with cause 4 at a full one. -/
def Obligations.ReceiverReadsBackEveryFrame : Prop :=
  ∀ (s : State) (p : Port) (f : Frame), f.payload.length ≤ 200 → (s.port p).rxState = .hunt →
    ((s.port p).rx.length < 4 →
      Sys2Proof.core.run (f.payload.length + 6) { s with pending := sending p f } =
        .next ({ s with pending := [] }.modPort p fun ps =>
          { ps with rxState := .hunt, rxGap := none, rx := ps.rx ++ [f] })) ∧
    (4 ≤ (s.port p).rx.length →
      Sys2Proof.core.run (f.payload.length + 6) { s with pending := sending p f } =
        .next ({ s with pending := [] }.modPort p fun ps =>
          raiseIn .linkError ⟨none, 0, 4, s.clock⟩
            { ps with rxState := .hunt, rxGap := none, frameErrors := min 65535 (ps.frameErrors + 1) }))

/-- A receiver in HUNT starts a frame at 0xA5 with its stop bit and discards every other byte. The last check byte of a
well-formed frame brings it to HUNT again: the frame joins the tail of the receive queue, or at 4 frames is dropped as a
frame error of cause 4. The frame whose last byte has been sent leaves the head of the transmit queue. -/
def Obligations.FramesEnterAndLeaveTheQueues : Prop :=
  (∀ (s : State) (p : Port), (s.port p).rxState = .hunt →
     exec (.frameByteReceived p 0xA5#8 true) s =
       .next (s.modPort p fun ps => { ps with rxState := .headerLen, rxGap := some (s.clock + 5#32) }) ∧
     ∀ (b : Byte) (stop : Bool), b ≠ 0xA5#8 ∨ stop = false → exec (.frameByteReceived p b stop) s = .next s) ∧
  (∀ (s : State) (p : Port) (len kind tag high low : Byte) (payload : List Byte),
     (s.port p).rxState = .checkLow len kind tag payload high →
     (frameCheck len kind tag payload).toNat = high.toNat * 256 + low.toNat →
     exec (.frameReceived p low) s = .next (s.modPort p fun ps =>
       if ps.rx.length < 4 then
         { ps with rxState := .hunt, rxGap := none, rx := ps.rx ++ [⟨kind, tag, payload⟩] }
       else raiseIn .linkError ⟨none, 0, 4, s.clock⟩
         { ps with rxState := .hunt, rxGap := none, frameErrors := min 65535 (ps.frameErrors + 1) })) ∧
  ∀ (s : State) (p : Port) (x : TxFrame) (rest : List TxFrame), (s.port p).tx = x :: rest →
    exec (.frameSent p) s = .next (s.modPort p fun ps => { ps with tx := rest })

/-- Every way a frame is abandoned: the receiver returns to HUNT with its gap timer stopped, the port's frame error
count rises, saturating, and LINK_ERROR is raised with the cause in that port's records alone. That a missing stop bit
counts before a LEN above 200 or a wrong second check byte is the model's choice (log 28). -/
def Obligations.AbandonedFrameReportsCause : Prop :=
  let abandoned (s : State) (p : Port) (cause : Nat) : State := s.modPort p fun ps =>
    raiseIn .linkError ⟨none, 0, cause, s.clock⟩
      { ps with rxState := .hunt, rxGap := none, frameErrors := min 65535 (ps.frameErrors + 1) }
  ∀ (s : State) (p : Port),
    (∀ t, (s.port p).rxGap = some t → reached s.clock t = true →
      exec (.frameGapExpiry p) s = .next (abandoned s p 1)) ∧
    (∀ b : Byte, (s.port p).rxState = .headerLen → 200 < b.toNat →
      exec (.frameByteReceived p b true) s = .next (abandoned s p 2)) ∧
    (∀ (len kind tag high low : Byte) (payload : List Byte),
      (s.port p).rxState = .checkLow len kind tag payload high →
      (frameCheck len kind tag payload).toNat ≠ high.toNat * 256 + low.toNat →
      exec (.frameReceived p low) s = .next (abandoned s p 3)) ∧
    (∀ b : Byte, (s.port p).rxState ≠ .hunt →
      exec (.frameByteReceived p b false) s = .next (abandoned s p 5))

/-! ### Events and notices -/

/-- Raising an event of a kind other than LINK_ERROR: in each port's record a clear flag rises with the detail and
count 1, a raised one counts up to 255 and keeps its detail; a notice joins the queue exactly when the flag rises,
the mask holds the kind and fewer than 16 notices wait; no other record and nothing else of the part changes. -/
def Obligations.RaisedEventIsRecordedAndNoticed : Prop :=
  ∀ (s : State) (k : EventKind) (lane : Option LaneId) (n : Serial) (code : Nat),
    let d : Detail := ⟨lane, n, code, s.clock⟩
    let t := raise k lane n code s
    t = { s with line := t.line, bench := t.bench } ∧
    ∀ p, t.port p = { s.port p with events := (t.port p).events, tx := (t.port p).tx } ∧
      (t.port p).events[k.idx] = (match (s.port p).events[k.idx] with
        | none => some ⟨d, 1⟩
        | some r => some ⟨r.detail, min 255 (r.count + 1)⟩) ∧
      (∀ j, j ≠ k.idx → (t.port p).events[j] = (s.port p).events[j]) ∧
      (t.port p).tx = (s.port p).tx ++
        if (s.port p).events[k.idx] = none ∧ (s.port p).mask[k.idx] = true ∧ noticeCount (s.port p) < 16 then
          [⟨true, ⟨0x70#8, 0#8, toByte (k.idx.val + 1) :: laneByte lane :: (bytes32 n ++ bytes16 code ++
            bytes32 s.clock.toNat)⟩⟩]
        else []

/-! ### Commands in general -/

/-- Every command taken is answered: its reply, with its KIND plus 0x80 and its TAG, stands right behind the frames
that were in the transmit queue. A command refused, PATH_BEGIN apart (R105 gives one refusal an effect), changes
nothing but this: the frame has left the receive queue and its reply carries the status alone. -/
def Obligations.RefusedCommandChangesNothing : Prop :=
  ∀ (s t : State) (p : Port) (f : Frame) (rest : List Frame), s.Ready p f rest →
    exec (commandOf p f) s = .next t →
    ∃ (status : Status) (data : List Byte), (t.port p).tx[s.txLength p]? = some (reply f status data) ∧
      (status ≠ .ok → status ≠ .clamped → f.kind ≠ 0x50#8 →
        data = [] ∧ t = (s.taken p rest).answered p (s.txLength p) (reply f status []))

/-- The checks before a command's own conditions, in their order, each with its status. A KIND that no row of the
message-kind table lists is answered BAD_KIND. A command kind outside the nine that the Bench Port may send is answered
WRONG_PORT there, whatever its payload, and so is a DISPOSE on the Line Port while remote disposition is off. A permitted
kind whose LEN it does not allow is answered BAD_LENGTH (SET_OVEN_LAYOUT, WRITE_RECIPE and DISPOSE with the payload checks
of their length step), and then one whose lane, on/off, serial, alias or event kind field fails BAD_VALUE. -/
def Obligations.ChecksRefuseInOrder : Prop :=
  (∀ (s : State) (p : Port) (k tag : Byte) (payload : List Byte) (rest : List Frame),
     k.toNat ∉ [0x01, 0x02, 0x03, 0x04, 0x05, 0x06, 0x07, 0x10, 0x11, 0x12, 0x13, 0x20, 0x21, 0x22, 0x23, 0x24, 0x25,
       0x30, 0x31, 0x32, 0x33, 0x34, 0x40, 0x41, 0x50, 0x51, 0x52, 0x53, 0x54, 0x60] →
     s.Ready p ⟨k, tag, payload⟩ rest →
     commandOf p ⟨k, tag, payload⟩ = .badKindCommand p k tag payload ∧
     exec (.badKindCommand p k tag payload) s =
       .next ((s.taken p rest).answered p (s.txLength p) (reply ⟨k, tag, payload⟩ .badKind []))) ∧
  (∀ (s : State) (f : Frame) (rest : List Frame),
    (f.kind.toNat ∈ [0x10, 0x11, 0x12, 0x13, 0x20, 0x21, 0x22, 0x23, 0x24, 0x25, 0x30, 0x32, 0x33, 0x34, 0x40, 0x41,
        0x50, 0x51, 0x52, 0x53, 0x54] → s.Ready .bench f rest →
      exec (commandOf .bench f) s =
        .next ((s.taken .bench rest).answered .bench (s.txLength .bench) (reply f .wrongPort []))) ∧
    (f.kind = 0x60#8 → s.settings.remoteDisposition = false → s.Ready .line f rest →
      exec (commandOf .line f) s =
        .next ((s.taken .line rest).answered .line (s.txLength .line) (reply f .wrongPort [])))) ∧
  ∀ (s : State) (p : Port) (f : Frame) (rest : List Frame),
    (match p with
      | .line => f.kind.toNat ∈ [0x01, 0x02, 0x03, 0x04, 0x05, 0x06, 0x07, 0x10, 0x11, 0x12, 0x13, 0x20, 0x21, 0x22, 0x23,
          0x24, 0x25, 0x30, 0x31, 0x32, 0x33, 0x34, 0x40, 0x41, 0x50, 0x51, 0x52, 0x53, 0x54, 0x60] ∧
          (f.kind = 0x60#8 → s.settings.remoteDisposition = true)
      | .bench => f.kind.toNat ∈ [0x01, 0x02, 0x03, 0x04, 0x05, 0x06, 0x07, 0x31, 0x60]) →
    s.Ready p f rest →
    let refused (status : Status) : State := (s.taken p rest).answered p (s.txLength p) (reply f status [])
    (∀ status, lengthStep f.kind f.payload = some status → exec (commandOf p f) s = .next (refused status)) ∧
    (lengthStep f.kind f.payload = none → CommonFieldFails f.kind f.payload →
      exec (commandOf p f) s = .next (refused .badValue))

/-! ### Identification, status, events -/

/-- IDENTIFY is answered OK with LEN 6 on either port in every state (the build code is Config's, log 8). GET_STATUS is
answered OK with LEN 34 on either port in every state, with the fields of R16 in order. Neither changes anything. -/
def Obligations.IdentificationAndStatusReplies : Prop :=
  (∀ (s : State) (p : Port) (tag : Byte) (rest : List Frame), s.Ready p ⟨0x01#8, tag, []⟩ rest →
     exec (.identify p tag []) s = .next ((s.taken p rest).answered p (s.txLength p)
       ⟨false, ⟨0x81#8, tag, 0#8 :: (bytes16 7240 ++ [1#8] ++ bytes16 Config.buildCode.toNat)⟩⟩)) ∧
  ∀ (s : State) (p : Port) (tag : Byte) (rest : List Frame), s.Ready p ⟨0x02#8, tag, []⟩ rest →
    let lane (l : LaneId) : List Byte :=
      [toByte (s.lane l).ctl.state.code, flagByte (s.lane l).ctl.disablePending, flagByte (s.lane l).ctl.serviceDue,
        toByte (s.lane l).path.state.code, toByte (s.lane l).ctl.queue.length] ++
        bytes32 (match s.records.find? fun b => decide (b.location = .lane l) with
          | some b => b.serial
          | none => 0)
    let fields := 0#8 :: (lane .lane0 ++ lane .lane1 ++
      [grantByte s.gate.grant, flagByte s.gate.ovenAccept, flagByte s.oven.layout.isSome,
        toByte s.oven.queue.length, toByte s.holds.length, toByte s.records.length,
        flagByte s.store.clearTimer.isSome] ++
      bytes16 s.line.frameErrors ++ bytes16 s.bench.frameErrors ++ bytes32 s.clock.toNat)
    fields.length = 34 ∧
    exec (.getStatus p tag []) s =
      .next ((s.taken p rest).answered p (s.txLength p) ⟨false, ⟨0x82#8, tag, fields⟩⟩)

/-- GET_EVENTS reports the port's event records and changes none: the 19 counts with LEN 0, one record with LEN 1.
ACK_EVENTS clears the listed kinds on its own port and replies the count each held just before, 0 for a kind that was clear
and for a second listing. SET_NOTICE_MASK replaces the mask of its own port with the listed kinds. -/
def Obligations.EventCommandsReportClearAndMask : Prop :=
  (∀ (s : State) (p : Port) (tag : Byte) (rest : List Frame),
     (s.Ready p ⟨0x03#8, tag, []⟩ rest →
       exec (.getEvents p tag []) s = .next ((s.taken p rest).answered p (s.txLength p) ⟨false, ⟨0x83#8, tag, 0#8 ::
         (List.finRange 19).map fun i => match (s.port p).events[i] with
           | some r => toByte r.count
           | none => 0#8⟩⟩)) ∧
     ∀ i : Fin 19, s.Ready p ⟨0x03#8, tag, [toByte (i.val + 1)]⟩ rest →
       exec (.getEvents p tag [toByte (i.val + 1)]) s =
         .next ((s.taken p rest).answered p (s.txLength p) ⟨false, ⟨0x83#8, tag, 0#8 :: toByte (i.val + 1) ::
           match (s.port p).events[i] with
           | some r => toByte r.count :: laneByte r.detail.lane :: (bytes32 r.detail.serial ++ bytes16 r.detail.code ++
               bytes32 r.detail.time.toNat)
           | none => [0#8, 0xFF#8, 0#8, 0#8, 0#8, 0#8, 0#8, 0#8, 0#8, 0#8, 0#8, 0#8]⟩⟩)) ∧
  (∀ (s : State) (p : Port) (tag : Byte) (rest : List Frame) (ks : List (Fin 19)), ks ≠ [] → ks.length ≤ 19 →
     let payload := ks.map fun k => toByte (k.val + 1)
     s.Ready p ⟨0x04#8, tag, payload⟩ rest →
     exec (.ackEvents p tag payload) s =
       .next (((s.taken p rest).modPort p fun ps =>
           { ps with events := Vector.ofFn fun i => if i ∈ ks then none else ps.events[i] }).answered p (s.txLength p)
         ⟨false, ⟨0x84#8, tag, 0#8 :: (List.finRange ks.length).map fun (j : Fin ks.length) =>
           if ks.get j ∈ ks.take j.val then 0#8 else
             match (s.port p).events[ks.get j] with
             | some r => toByte r.count
             | none => 0#8⟩⟩)) ∧
  ∀ (s : State) (p : Port) (tag : Byte) (rest : List Frame) (ks : List (Fin 19)), ks.length ≤ 19 →
    let payload := ks.map fun k => toByte (k.val + 1)
    s.Ready p ⟨0x05#8, tag, payload⟩ rest →
    exec (.setNoticeMask p tag payload) s =
      .next (((s.taken p rest).modPort p fun ps =>
          { ps with mask := Vector.ofFn fun i => decide (i ∈ ks) }).answered p (s.txLength p)
        ⟨false, ⟨0x85#8, tag, [0#8]⟩⟩)

/-! ### Line settings and resets -/

/-- SET_LINE_CONFIG with every value in its range: the five settings are replaced, the zones are judged against the new
zone stale limit (in zone order, log 17), and the gate re-evaluates. With a value out of its range nothing changes. -/
def Obligations.SetLineConfigReplacesSettings : Prop :=
  ∀ (s : State) (tag : Byte) (rest : List Frame) (timeout spacing stale window : Nat) (remote : Bool),
    timeout < 65536 → spacing < 65536 → stale < 65536 → window < 65536 →
    let payload := bytes16 timeout ++ bytes16 spacing ++ bytes16 stale ++ bytes16 window ++ [flagByte remote]
    s.Ready .line ⟨0x10#8, tag, payload⟩ rest →
    exec (.setLineConfig .line tag payload) s = .next (
      if 2000 ≤ timeout ∧ timeout ≤ 60000 ∧ spacing ≤ 5000 ∧ 500 ≤ stale ∧ stale ≤ 10000 ∧ window ≤ 2000 then
        (State.reevaluate (State.judgeZones
          { s.taken .line rest with settings := ⟨timeout, spacing, stale, window, remote⟩ }
          [0, 1, 2, 3, 4, 5])).answered .line (s.txLength .line) ⟨false, ⟨0x90#8, tag, [0#8]⟩⟩
      else (s.taken .line rest).answered .line (s.txLength .line) ⟨false, ⟨0x90#8, tag, [4#8]⟩⟩)

/-- LINE_RESET in any state: what it clears, block by block, and what it keeps. -/
def Obligations.LineResetClearsLineAndKeepsSettings : Prop :=
  ∀ (s : State) (tag : Byte) (rest : List Frame), s.Ready .line ⟨0x33#8, tag, []⟩ rest →
    let u := s.taken .line rest
    let lane (x : Lane) : Lane :=
      { ctl := { x.ctl with
          state := .off, disablePending := false, ejectSubject := none, ejectTimer := none, queue := [] }
        station := { x.station with
          startAsm := ⟨[], none⟩, endAsm := ⟨[], none⟩, inspectAsm := ⟨[], none⟩, boardAsm := ⟨[], none⟩
          startSlot := none, endSlot := none, inspectQueue := [], boardSlot := none }
        checker := { x.checker with checkTimer := none, paceTimer := none, ready := false }
        path := PathExec.reset
        meter := { x.meter with segPulses := 0 } }
    exec (.lineReset .line tag []) s = .next ({ u with
      line := { u.line with events := Vector.replicate 19 none }
      bench := { u.bench with events := Vector.replicate 19 none }
      records := []
      lane0 := lane u.lane0
      lane1 := lane u.lane1
      gate := { exit0 := none, exit1 := none, station := none, presence := u.gate.presence, grant := none,
                transferTimer := none, ovenAccept := false }
      oven := { u.oven with queue := [] }
      holds := [] }.answered .line (s.txLength .line) ⟨false, ⟨0xB3#8, tag, [0#8]⟩⟩)

/-- The state after reset, block by block: what the chapters give for power-on. -/
def Obligations.ResetIsThePowerOnState : Prop :=
  let s := State.reset
  s.clock = 0#32 ∧
  (∀ p, (s.port p).rxState = .hunt ∧ (s.port p).rxGap = none ∧ (s.port p).rx = [] ∧ (s.port p).tx = [] ∧
    (s.port p).frameErrors = 0 ∧ ∀ i : Fin 19, (s.port p).events[i] = none ∧ (s.port p).mask[i] = false) ∧
  s.settings = ⟨15000, 150, 3000, 150, false⟩ ∧
  s.store.aliasTable = [] ∧ s.store.clearTimer = none ∧
  (∀ i : Fin 8, s.store.slots[i].state = .empty ∧ s.store.slots[i].material = none ∧ s.store.slots[i].areas = none ∧
    s.store.slots[i].features = none ∧ s.store.slots[i].cure = none ∧ s.store.slots[i].timing = none ∧
    s.store.slots[i].featuresD.length = 0 ∧ s.store.slots[i].editCount = 0 ∧
    ∀ c : Fin 256, s.store.slots[i].map[c] = if c.val = 255 then .endMark else .none) ∧
  s.records = [] ∧ s.holds = [] ∧
  (∀ l,
    let c := (s.lane l).ctl
    let st := (s.lane l).station
    let m := (s.lane l).checker
    let pe := (s.lane l).path
    (c.state = .off ∧ c.disablePending = false ∧ c.ejectSubject = none ∧ c.ejectTimer = none ∧ c.queue = [] ∧
      c.settings = ⟨20, 20, 30, 30, 15, 15, 20, 10, 8, 50⟩ ∧ c.nozzleCount = 0 ∧ c.serviceDue = false) ∧
    (st.startSlot = none ∧ st.endSlot = none ∧ st.inspectQueue = [] ∧ st.boardSlot = none ∧
      st.startAsm = ⟨[], none⟩ ∧ st.endAsm = ⟨[], none⟩ ∧ st.inspectAsm = ⟨[], none⟩ ∧ st.boardAsm = ⟨[], none⟩ ∧
      st.startOverruns = 0 ∧ st.endOverruns = 0 ∧ st.inspectOverruns = 0 ∧ st.boardOverruns = 0) ∧
    (m.checkTimer = none ∧ m.paceTimer = none ∧ m.ready = false ∧ m.unmappedCount = 0 ∧ m.lateCount = 0) ∧
    (pe.state = .empty ∧ pe.slot = none ∧ pe.keep = false ∧ pe.queue = [] ∧ pe.last = none ∧ pe.cursor = 1 ∧
      pe.seq = .closed ∧ pe.executing = none ∧ pe.phaseTimer = none ∧ pe.gapTimer = none) ∧
    (s.lane l).meter = ⟨0, 0⟩ ∧
    s.valveDrive l .bead = false ∧ s.valveDrive l .atomize = false ∧ s.ejectDrive l = false ∧
    s.gateRelease (.lane l) = false ∧ s.busyLine l = false) ∧
  s.gateRelease .returnStation = false ∧
  s.gate.exit0 = none ∧ s.gate.exit1 = none ∧ s.gate.station = none ∧ s.gate.stationState = .empty ∧
  s.gate.grant = none ∧ s.gate.transferTimer = none ∧ s.gate.ovenAccept = false ∧
  s.oven.layout = none ∧ s.oven.queue = [] ∧ s.oven.doseNext = 1000#32 ∧
  (∀ z : Fin 6, s.oven.zones[z] = ⟨none, none, false, 0⟩) ∧ s.oven.sensorBytes = [] ∧ s.oven.sensorGap = none ∧
  s.pending = []

/-- POWER_ON brings every block to its power-on value from any state. That the input levels (presence, slot addresses),
the commands waiting and the count of free values stay is the model's choice (log 11, log 26). -/
def Obligations.PowerOnRestoresReset : Prop :=
  ∀ s : State, exec .powerOn s = .next { State.reset with
    lane0 := { Lane.reset with station := { StationPort.reset with address := s.lane0.station.address } }
    lane1 := { Lane.reset with station := { StationPort.reset with address := s.lane1.station.address } }
    gate := { Gate.reset with presence := s.gate.presence }
    freeCount := s.freeCount
    pending := s.pending }

/-! ### Recipes -/

/-- An accepted WRITE_RECIPE, for every section: sent in the section's own layout, with every field in its range, the
section takes the sent values and is marked, a smaller FEATURES count cuts the map, the edit count rises, saturating,
and the slot's new state is replied. It is refused BUSY while CLEARING and IN_USE while a record or path names the
slot. With a slot above 7 or any section field out of its range it is refused BAD_VALUE, whatever the store. -/
def Obligations.WriteRecipeStoresSection : Prop :=
  (∀ (s : State) (tag : Byte) (rest : List Frame) (i : Fin 8) (c : SectionCode) (src : RecipeSlot)
    (fields : List Byte), src.sectionBytes c = some fields → c.InRange src →
    let payload := toByte i.val :: c.code :: fields
    s.Ready .line ⟨0x20#8, tag, payload⟩ rest →
    let u := s.taken .line rest
    let r := c.put src (s.store.slots[i])
    exec (.writeRecipe .line tag payload) s = .next (
      if s.store.clearTimer.isSome then u.answered .line (s.txLength .line) ⟨false, ⟨0xA0#8, tag, [8#8]⟩⟩
      else if s.slotInUse i then u.answered .line (s.txLength .line) ⟨false, ⟨0xA0#8, tag, [6#8]⟩⟩
      else { u with store := { u.store with
          slots := u.store.slots.set i { r with editCount := min 65535 (r.editCount + 1) } } }.answered .line
        (s.txLength .line) ⟨false, ⟨0xA0#8, tag, [0#8, toByte r.state.code]⟩⟩)) ∧
  ∀ (s : State) (tag : Byte) (rest : List Frame) (d : List Byte), lengthStep 0x20#8 d = none →
    7 < (byteAt d 0).toNat ∨ ¬ SectionBytesInRange d → s.Ready .line ⟨0x20#8, tag, d⟩ rest →
    exec (.writeRecipe .line tag d) s =
      .next ((s.taken .line rest).answered .line (s.txLength .line) ⟨false, ⟨0xA0#8, tag, [4#8]⟩⟩)

/-- READ_RECIPE outside CLEARING changes nothing: a marked section is replied in the layout of its write, an unmarked
one is refused NOT_FOUND; SUMMARY is replied with LEN 14; a map quarter with LEN 129, entry by entry; a slot above 7 or a
section code outside 1 to 10 is BAD_VALUE. While CLEARING every read of a slot is refused BUSY. -/
def Obligations.ReadRecipeRepliesStore : Prop :=
  (∀ (s : State) (tag : Byte) (rest : List Frame) (i : Fin 8), s.store.clearTimer = none →
    let r := s.store.slots[i]
    let answer (fields : List Byte) : Host.Outcome State Fault Refusal :=
      .next ((s.taken .line rest).answered .line (s.txLength .line) ⟨false, ⟨0xA1#8, tag, fields⟩⟩)
    (∀ c : SectionCode, s.Ready .line ⟨0x21#8, tag, [toByte i.val, c.code]⟩ rest →
      exec (.readRecipe .line tag [toByte i.val, c.code]) s =
        answer (match r.sectionBytes c with
          | some fields => 0#8 :: fields
          | none => [5#8])) ∧
    (s.Ready .line ⟨0x21#8, tag, [toByte i.val, 6#8]⟩ rest →
      let fields := 0#8 :: toByte r.state.code :: flagByte r.material.isSome :: flagByte r.areas.isSome ::
        flagByte r.features.isSome :: flagByte r.cure.isSome :: flagByte r.timing.isSome ::
        flagByte (s.slotInUse i) :: toByte (s.records.filter fun b => decide (b.slot = i)).length ::
        toByte (([s.lane0, s.lane1].filter fun x => x.path.state ≠ .empty && x.path.slot = some i).length) ::
        toByte (s.store.aliasTable.filter fun e => decide (e.2 = i)).length :: toByte s.store.aliasTable.length ::
        bytes16 r.editCount
      fields.length = 14 ∧ exec (.readRecipeSummary .line tag [toByte i.val, 6#8]) s = answer fields) ∧
    ∀ q : Fin 4, s.Ready .line ⟨0x21#8, tag, [toByte i.val, toByte (7 + q.val)]⟩ rest →
      let fields := 0#8 :: (List.finRange 256).flatMap fun c =>
        if c.val / 64 = q.val then
          match r.map[c] with
          | .checkSlot k f => [toByte k.val, flagByte f]
          | .none => [0xFF#8, 0#8]
          | .endMark => [0xFE#8, 0#8]
        else []
      fields.length = 129 ∧
      exec (.readFeatureMap .line tag [toByte i.val, toByte (7 + q.val)]) s = answer fields) ∧
  ∀ (s : State) (tag slot code : Byte) (rest : List Frame), s.Ready .line ⟨0x21#8, tag, [slot, code]⟩ rest →
    let refused (status : Byte) : Host.Outcome State Fault Refusal :=
      .next ((s.taken .line rest).answered .line (s.txLength .line) ⟨false, ⟨0xA1#8, tag, [status]⟩⟩)
    (s.store.clearTimer = none → 7 < slot.toNat ∨ code.toNat < 1 ∨ 10 < code.toNat →
      exec (commandOf .line ⟨0x21#8, tag, [slot, code]⟩) s = refused 4#8) ∧
    (s.store.clearTimer.isSome = true → slot.toNat ≤ 7 → 1 ≤ code.toNat → code.toNat ≤ 10 →
      exec (commandOf .line ⟨0x21#8, tag, [slot, code]⟩) s = refused 8#8)

/-- Outside CLEARING and for a table with each alias once: BIND_ALIAS re-points an alias that is present and replies its
previous slot; it adds an absent one if the table has room, replying 0xFF, and is refused FULL at 24 entries. UNBIND_ALIAS
removes the alias's entry and replies its slot; an absent alias is NOT_FOUND. A BIND_ALIAS to a slot above 7 is BAD_VALUE.
While CLEARING both are refused BUSY. -/
def Obligations.AliasCommandsKeepTheTable : Prop :=
  (∀ (s : State) (tag : Byte) (rest : List Frame) (a : Nat) (i : Fin 8), 1 ≤ a → a ≤ 65535 →
     s.store.clearTimer = none → (s.store.aliasTable.map (·.1)).Nodup →
     let payload := bytes16 a ++ [toByte i.val]
     s.Ready .line ⟨0x22#8, tag, payload⟩ rest →
     let u := s.taken .line rest
     let answer (t : List (Nat × Fin 8)) (fields : List Byte) : Host.Outcome State Fault Refusal :=
       .next ({ u with store := { u.store with aliasTable := t } }.answered .line (s.txLength .line)
         ⟨false, ⟨0xA2#8, tag, fields⟩⟩)
     (∀ old, (a, old) ∈ s.store.aliasTable →
       exec (.bindAlias .line tag payload) s =
         answer (s.store.aliasTable.map fun e => if e.1 = a then (a, i) else e) [0#8, toByte old.val]) ∧
     ((∀ old, (a, old) ∉ s.store.aliasTable) →
       exec (.bindAlias .line tag payload) s =
         if s.store.aliasTable.length < 24 then answer (s.store.aliasTable ++ [(a, i)]) [0#8, 0xFF#8]
         else answer s.store.aliasTable [7#8])) ∧
  (∀ (s : State) (tag : Byte) (rest : List Frame) (a : Nat), 1 ≤ a → a ≤ 65535 →
    s.store.clearTimer = none → (s.store.aliasTable.map (·.1)).Nodup →
    s.Ready .line ⟨0x23#8, tag, bytes16 a⟩ rest →
    let u := s.taken .line rest
    (∀ old, (a, old) ∈ s.store.aliasTable →
      exec (.unbindAlias .line tag (bytes16 a)) s =
        .next ({ u with store := { u.store with
            aliasTable := s.store.aliasTable.filter fun e => decide (e.1 ≠ a) } }.answered .line (s.txLength .line)
          ⟨false, ⟨0xA3#8, tag, [0#8, toByte old.val]⟩⟩)) ∧
    ((∀ old, (a, old) ∉ s.store.aliasTable) →
      exec (.unbindAlias .line tag (bytes16 a)) s =
        .next (u.answered .line (s.txLength .line) ⟨false, ⟨0xA3#8, tag, [5#8]⟩⟩))) ∧
  ∀ (s : State) (tag slot : Byte) (rest : List Frame) (a : Nat), 1 ≤ a → a ≤ 65535 →
    let refused (kind status : Byte) : Host.Outcome State Fault Refusal :=
      .next ((s.taken .line rest).answered .line (s.txLength .line) ⟨false, ⟨kind, tag, [status]⟩⟩)
    (s.Ready .line ⟨0x22#8, tag, bytes16 a ++ [slot]⟩ rest →
      (s.store.clearTimer = none → 7 < slot.toNat →
        exec (.bindAlias .line tag (bytes16 a ++ [slot])) s = refused 0xA2#8 4#8) ∧
      (s.store.clearTimer.isSome = true → slot.toNat ≤ 7 →
        exec (.bindAlias .line tag (bytes16 a ++ [slot])) s = refused 0xA2#8 8#8)) ∧
    (s.Ready .line ⟨0x23#8, tag, bytes16 a⟩ rest → s.store.clearTimer.isSome = true →
      exec (.unbindAlias .line tag (bytes16 a)) s = refused 0xA3#8 8#8)

/-- WRITE_FEATURE_MAP of 1 to 99 entries that the slot can take: BUSY while CLEARING, IN_USE while a record or path names
the slot; otherwise the entries replace those of the run of codes from the first code on, every other code keeps its entry,
and the edit count rises; no section is marked. With a slot above 7, a run that reaches entry 255 or an entry the slot
cannot take it is refused BAD_VALUE, whatever the store. -/
def Obligations.WriteFeatureMapReplacesRun : Prop :=
  (∀ (s : State) (tag : Byte) (rest : List Frame) (i : Fin 8) (first : Nat) (es : List MapEntry),
    1 ≤ es.length → es.length ≤ 99 → first + es.length ≤ 255 →
    (∀ e ∈ es, e ≠ .endMark ∧ ∀ k f, e = .checkSlot k f → k.val < (s.store.slots[i]).featuresD.length) →
    let payload := toByte i.val :: toByte first :: es.flatMap MapEntry.bytes
    s.Ready .line ⟨0x24#8, tag, payload⟩ rest →
    let u := s.taken .line rest
    let r := s.store.slots[i]
    exec (.writeFeatureMap .line tag payload) s = .next (
      if s.store.clearTimer.isSome then u.answered .line (s.txLength .line) ⟨false, ⟨0xA4#8, tag, [8#8]⟩⟩
      else if s.slotInUse i then u.answered .line (s.txLength .line) ⟨false, ⟨0xA4#8, tag, [6#8]⟩⟩
      else { u with store := { u.store with slots := u.store.slots.set i { r with
          editCount := min 65535 (r.editCount + 1)
          map := Vector.ofFn fun c : Fin 256 =>
            if first ≤ c.val ∧ c.val < first + es.length then es.getD (c.val - first) .none else r.map[c] } } }.answered
        .line (s.txLength .line) ⟨false, ⟨0xA4#8, tag, [0#8]⟩⟩)) ∧
  ∀ (s : State) (tag : Byte) (rest : List Frame) (d : List Byte), lengthStep 0x24#8 d = none →
    let k := (d.length - 2) / 2
    7 < (byteAt d 0).toNat ∨ 254 < (byteAt d 1).toNat + k - 1 ∨ (∃ i : Fin 8, (byteAt d 0).toNat = i.val ∧
      ∃ j < k, MapEntryFails (s.store.slots[i]).featuresD.length d j) →
    s.Ready .line ⟨0x24#8, tag, d⟩ rest →
    exec (.writeFeatureMap .line tag d) s =
      .next ((s.taken .line rest).answered .line (s.txLength .line) ⟨false, ⟨0xA4#8, tag, [4#8]⟩⟩)

/-- CLEAR_RECIPES: BUSY while CLEARING; IN_USE while any record exists or a path is not EMPTY; otherwise the store is
CLEARING with its timer at 250 ms. At the expiry the store has its power-on content and CLEAR_DONE is raised. -/
def Obligations.ClearRecipesThenStoreIsEmpty : Prop :=
  (∀ (s : State) (tag : Byte) (rest : List Frame), s.Ready .line ⟨0x25#8, tag, []⟩ rest →
    let u := s.taken .line rest
    exec (.clearRecipes .line tag []) s = .next (
      if s.store.clearTimer.isSome then u.answered .line (s.txLength .line) ⟨false, ⟨0xA5#8, tag, [8#8]⟩⟩
      else if s.records ≠ [] ∨ s.lane0.path.state ≠ .empty ∨ s.lane1.path.state ≠ .empty then
        u.answered .line (s.txLength .line) ⟨false, ⟨0xA5#8, tag, [6#8]⟩⟩
      else { u with store := { u.store with clearTimer := some (s.clock + 250#32) } }.answered .line
        (s.txLength .line) ⟨false, ⟨0xA5#8, tag, [0#8]⟩⟩)) ∧
  ∀ (s : State) (t : Time), s.store.clearTimer = some t → reached s.clock t = true →
    exec .clearTimerExpiry s = .next (raise .clearDone none 0 0 { s with store :=
      { slots := Vector.replicate 8
          { material := none, areas := none, features := none, cure := none, timing := none, editCount := 0
            map := Vector.ofFn fun c : Fin 256 => if c.val = 255 then .endMark else .none }
        aliasTable := [], clearTimer := none } })

/-- The content of a recipe slot does not change while any board record or any path names it; and a clear, once
started, never meets a reference: every step but POWER_ON keeps both. -/
def Obligations.RecipeInUseNeverChanges : Prop :=
  ∀ s t : State, s.ClearingFindsNoReference → s.pending.head? ≠ some .powerOn → step s = .next t →
    t.ClearingFindsNoReference ∧ ∀ i : Fin 8, s.slotInUse i = true → t.store.slots[i] = s.store.slots[i]

/-! ### Board records -/

/-- ANNOUNCE: its own conditions in their order, each with its status; accepted, the record of R40 is created on the
alias's slot and its entry joins the tail of the lane's queue. WITHDRAW of a board that is ANNOUNCED and still in its
announce queue removes its entry and its record and replies the lane; an unknown serial is NOT_FOUND, and a board that has
gone on is WRONG_STATE. -/
def Obligations.AnnounceAndWithdrawABoard : Prop :=
  (∀ (s : State) (tag : Byte) (rest : List Frame) (l : LaneId) (n a : Nat),
     1 ≤ n → n < 2 ^ 32 → 1 ≤ a → a ≤ 65535 →
     let payload := toByte (laneNumber l) :: (bytes32 n ++ bytes16 a)
     s.Ready .line ⟨0x40#8, tag, payload⟩ rest →
     let u := s.taken .line rest
     let q := (s.lane l).ctl.queue
     let refused (status : Byte) : State := u.answered .line (s.txLength .line) ⟨false, ⟨0xC0#8, tag, [status]⟩⟩
     exec (.announce .line tag payload) s = .next (
       if s.store.clearTimer.isSome then refused 8#8
       else if ∃ b ∈ s.records, b.serial = n then refused 6#8
       else if 32 ≤ s.records.length then refused 7#8
       else match s.store.aliasTable.find? fun e => decide (e.1 = a) with
         | none => refused 5#8
         | some (_, i) =>
           if (s.store.slots[i]).state ≠ .ready then refused 9#8
           else if (s.lane l).ctl.state = .off then refused 9#8
           else if (s.lane l).ctl.serviceDue then refused 12#8
           else if 4 ≤ q.length then refused 7#8
           else ({ u with records := u.records ++ [({
               serial := n, slot := i, lane := l, stage := .announced, location := .announceQueue
               passAreas := Vector.ofFn fun x => decide (x.val < (s.store.slots[i]).areasD.length)
               rework := 0, verdicts := Vector.replicate 16 .unread, tallies := Vector.replicate 12 0
               coated := false, cured := false, sprayEnd := none, dose := 0, drip := 0
               reasons := Vector.replicate 20 false, filmLow := Vector.replicate 12 false
               filmHigh := Vector.replicate 12 false, maskCritical := Vector.replicate 16 false } : BoardRecord)] }.modCtl l
                 fun c => { c with queue := c.queue ++ [(⟨n, false⟩ : QueueEntry)] }).answered .line (s.txLength .line)
             ⟨false, ⟨0xC0#8, tag, [0#8, toByte i.val, toByte (q.length + 1)]⟩⟩)) ∧
  ∀ (s : State) (tag : Byte) (rest : List Frame) (n : Nat), 1 ≤ n → n < 2 ^ 32 →
    s.Ready .line ⟨0x41#8, tag, bytes32 n⟩ rest →
    let u := s.taken .line rest
    let refused (status : Byte) : State := u.answered .line (s.txLength .line) ⟨false, ⟨0xC1#8, tag, [status]⟩⟩
    exec (.withdraw .line tag (bytes32 n)) s = .next (
      match s.records.find? fun b => decide (b.serial = n) with
      | none => refused 5#8
      | some b =>
        if b.stage = .announced ∧ b.location = .announceQueue then
          ({ u with records := u.records.filter fun r => decide (r.serial ≠ n) }.modCtl b.lane fun c =>
            { c with queue := c.queue.filter fun e => decide (e.serial ≠ n) }).answered .line (s.txLength .line)
              ⟨false, ⟨0xC1#8, tag, [0#8, toByte (laneNumber b.lane)]⟩⟩
        else refused 9#8)

/-- GET_BOARD on either port changes nothing and replies the record with LEN 104, its fields at the offsets of 3.7.1;
an unknown serial is NOT_FOUND. -/
def Obligations.GetBoardRepliesRecord : Prop :=
  ∀ (s : State) (p : Port) (tag : Byte) (rest : List Frame) (n : Nat), 1 ≤ n → n < 2 ^ 32 →
    s.Ready p ⟨0x06#8, tag, bytes32 n⟩ rest →
    let answer (fields : List Byte) : Host.Outcome State Fault Refusal :=
      .next ((s.taken p rest).answered p (s.txLength p) ⟨false, ⟨0x86#8, tag, fields⟩⟩)
    match s.records.find? fun b => decide (b.serial = n) with
    | none => exec (.getBoard p tag (bytes32 n)) s = answer [5#8]
    | some b =>
      let position := (s.oven.queue.find? fun e => decide (e.serial = n)).map (·.position)
      let attached (code : Fin 20) (weight : Nat) : List Byte := bytes16 (if b.reasons[code] then weight else 0)
      let fields := 0#8 :: (bytes32 n ++
        [toByte b.slot.val, toByte (laneNumber b.lane), toByte b.stage.code, toByte b.location.code, toByte b.rework,
          flagByte b.coated, flagByte b.cured] ++
        bytes16 (setWeight b.passAreas) ++ (b.verdicts.toList.map fun v => toByte v.code) ++
        b.tallies.toList.flatMap bytes32 ++ bytes16 b.drip ++
        (match b.sprayEnd with
          | some e => 1#8 :: bytes32 e.time.toNat
          | none => [0#8, 0#8, 0#8, 0#8, 0#8]) ++
        bytes32 b.dose ++
        (match position with
          | some x => 1#8 :: bytes32 x
          | none => [0#8, 0#8, 0#8, 0#8, 0#8]) ++
        bytes32 (setWeight b.reasons) ++ attached 10 (setWeight b.filmLow) ++ attached 11 (setWeight b.filmHigh) ++
        attached 0 (setWeight b.maskCritical))
      fields.length = 104 ∧ exec (.getBoard p tag (bytes32 n)) s = answer fields

/-! ### Lanes -/

/-- LANE_ENABLE: a lane in OFF enters IDLE (no ARRIVED waits in OFF); in FAULT the command is WRONG_STATE; in every other
state disable-pending is cleared. LANE_DISABLE, on either port: nothing in OFF, OFF at once in IDLE (no ARRIVED waits in
IDLE), and disable-pending set in every other state. The state and disable-pending after it are replied. -/
def Obligations.LaneEnableAndDisableByLaneState : Prop :=
  (∀ (s : State) (tag : Byte) (rest : List Frame) (l : LaneId),
     s.Ready .line ⟨0x30#8, tag, [toByte (laneNumber l)]⟩ rest →
     let u := s.taken .line rest
     let c := (s.lane l).ctl
     ((c.state = .off → c.disablePending = false ∧ ∀ n, (s.lane l).station.boardSlot ≠ some (.arrived n)) →
       exec (.laneEnable .line tag [toByte (laneNumber l)]) s = .next (
         if c.state = .fault then u.answered .line (s.txLength .line) ⟨false, ⟨0xB0#8, tag, [9#8]⟩⟩
         else if c.state = .off then
           (u.modCtl l fun c => { c with state := .idle, ejectSubject := none }).answered .line (s.txLength .line)
             ⟨false, ⟨0xB0#8, tag, [0#8, 1#8, 0#8]⟩⟩
         else (u.modCtl l fun c => { c with disablePending := false }).answered .line (s.txLength .line)
             ⟨false, ⟨0xB0#8, tag, [0#8, toByte c.state.code, 0#8]⟩⟩))) ∧
  ∀ (s : State) (p : Port) (tag : Byte) (rest : List Frame) (l : LaneId),
    s.Ready p ⟨0x31#8, tag, [toByte (laneNumber l)]⟩ rest →
    let u := s.taken p rest
    let c := (s.lane l).ctl
    ((c.state = .idle → ∀ n, (s.lane l).station.boardSlot ≠ some (.arrived n)) →
      exec (.laneDisable p tag [toByte (laneNumber l)]) s = .next (
        if c.state = .off then
          u.answered p (s.txLength p) ⟨false, ⟨0xB1#8, tag, [0#8, 0#8, flagByte c.disablePending]⟩⟩
        else if c.state = .idle then
          (u.modCtl l fun c => { c with state := .off, disablePending := false }).answered p (s.txLength p)
            ⟨false, ⟨0xB1#8, tag, [0#8, 0#8, 0#8]⟩⟩
        else (u.modCtl l fun c => { c with disablePending := true }).answered p (s.txLength p)
            ⟨false, ⟨0xB1#8, tag, [0#8, toByte c.state.code, 1#8]⟩⟩))

/-- SET_LANE_CONFIG: a value out of its range is BAD_VALUE, a lane not in OFF is WRONG_STATE; otherwise the lane's
settings are replaced, and a service limit at or below the nozzle count sets a clear SERVICE_DUE and raises its event.
CLEAR_NOZZLE_COUNT in OFF or IDLE clears the nozzle count, SERVICE_DUE and the idle drip count and replies the nozzle count
it found; in any other lane state it is WRONG_STATE. -/
def Obligations.LaneSettingsAndNozzleCount : Prop :=
  (∀ (s : State) (tag : Byte) (rest : List Frame) (l : LaneId) (b1 b2 b3 b4 b5 b6 b7 b8 b9 : Byte) (limit : Nat),
     limit < 65536 →
     let payload := toByte (laneNumber l) :: b1 :: b2 :: b3 :: b4 :: b5 :: b6 :: b7 :: b8 :: b9 :: bytes16 limit
     s.Ready .line ⟨0x11#8, tag, payload⟩ rest →
     let u := s.taken .line rest
     let c : LaneSettings :=
       { onDelayBead := b1.toNat, onDelayAtomize := b2.toNat, closeLeadBead := b3.toNat, closeLeadAtomize := b4.toNat
         closeSettleBead := b5.toNat, closeSettleAtomize := b6.toNat, ejectTimeout := b7.toNat, gapLimit := b8.toNat
         lowWater := b9.toNat, nozzleLimit := limit }
     let inRange := (∀ b ∈ [b1, b2, b3, b4, b5, b6], b.toNat ≤ 250) ∧ (∀ b ∈ [b7, b8], 1 ≤ b.toNat ∧ b.toNat ≤ 60) ∧
       1 ≤ b9.toNat ∧ b9.toNat ≤ 64 ∧ 1 ≤ limit
     (¬ inRange → exec (.setLaneConfig .line tag payload) s =
       .next (u.answered .line (s.txLength .line) ⟨false, ⟨0x91#8, tag, [4#8]⟩⟩)) ∧
     (inRange → exec (.setLaneConfig .line tag payload) s = .next (
       if (s.lane l).ctl.state ≠ .off then u.answered .line (s.txLength .line) ⟨false, ⟨0x91#8, tag, [9#8]⟩⟩
       else if limit ≤ (s.lane l).ctl.nozzleCount ∧ (s.lane l).ctl.serviceDue = false then
         (raise .serviceDue (some l) 0 (s.lane l).ctl.nozzleCount
           (u.modCtl l fun x => { x with settings := c, serviceDue := true })).answered .line (s.txLength .line)
           ⟨false, ⟨0x91#8, tag, [0#8]⟩⟩
       else (u.modCtl l fun x => { x with settings := c }).answered .line (s.txLength .line)
           ⟨false, ⟨0x91#8, tag, [0#8]⟩⟩))) ∧
  ∀ (s : State) (tag : Byte) (rest : List Frame) (l : LaneId),
    s.Ready .line ⟨0x34#8, tag, [toByte (laneNumber l)]⟩ rest →
    let u := s.taken .line rest
    let c := (s.lane l).ctl
    exec (.clearNozzleCount .line tag [toByte (laneNumber l)]) s = .next (
      if c.state = .off ∨ c.state = .idle then
        (u.modLane l fun x => { x with
          ctl := { x.ctl with nozzleCount := 0, serviceDue := false }
          meter := { x.meter with idleDrip := 0 } }).answered .line (s.txLength .line)
          ⟨false, ⟨0xB4#8, tag, 0#8 :: bytes16 c.nozzleCount⟩⟩
      else u.answered .line (s.txLength .line) ⟨false, ⟨0xB4#8, tag, [9#8]⟩⟩)

/-- LANE_RESET in every lane state: the lane's blocks are cleared with its settings, counts and announce queue kept; its
requester and grant go; its current board gets LANE_ABORT and a forced hold, or is removed at overflow with code 2; a
withdrawn grant re-evaluates the gate. The reply carries the state before, the board's fate and the queue kept. -/
def Obligations.LaneResetClearsLaneAndHoldsBoard : Prop :=
  ∀ (s : State) (tag : Byte) (rest : List Frame) (l : LaneId),
    s.Ready .line ⟨0x32#8, tag, [toByte (laneNumber l)]⟩ rest →
    let u := s.taken .line rest
    let c := (s.lane l).ctl
    let granted := decide (s.gate.grant = some (.lane l))
    let cleared : State := { u with gate := { u.gate with
          exit0 := if l = LaneId.lane0 then none else u.gate.exit0
          exit1 := if l = LaneId.lane1 then none else u.gate.exit1
          grant := if granted then none else u.gate.grant
          transferTimer := if granted then none else u.gate.transferTimer } }.modLane l fun x =>
      { ctl := { x.ctl with
          state := .off, disablePending := false, ejectSubject := none, ejectTimer := none }
        station := { x.station with
          startAsm := ⟨[], none⟩, endAsm := ⟨[], none⟩, inspectAsm := ⟨[], none⟩, boardAsm := ⟨[], none⟩
          startSlot := none, endSlot := none, inspectQueue := [], boardSlot := none }
        checker := { x.checker with checkTimer := none, paceTimer := none, ready := false }
        path := PathExec.reset
        meter := { x.meter with segPulses := 0 } }
    let aborted : State := match s.board l with
      | none => cleared
      | some b => if s.holds.length < 16 then (cleared.addReason b.serial .laneAbort).grantHold b (.lane l)
          else raise .holdOverflow (some b.lane) b.serial 2 (cleared.removeRecord b.serial)
    let fate : Byte := if (s.board l).isNone then 0#8 else if s.holds.length < 16 then 1#8 else 2#8
    exec (.laneReset .line tag [toByte (laneNumber l)]) s =
      .next ((if granted then aborted.reevaluate else aborted).answered .line (s.txLength .line)
        ⟨false, ⟨0xB2#8, tag, 0#8 :: toByte c.state.code :: fate :: toByte c.queue.length ::
          c.queue.flatMap fun e => bytes32 e.serial ++ [flagByte e.rework]⟩⟩)

/-- The eject timer's expiry in EJECTING: the lane enters FAULT with its subject kept, and LANE_FAULT carries the
subject's serial, 0 for a stray, and code 1. -/
def Obligations.EjectTimeoutFaultsLane : Prop :=
  ∀ (s : State) (l : LaneId) (t : Time), (s.lane l).ctl.ejectTimer = some t → reached s.clock t = true →
    (s.lane l).ctl.state = .ejecting →
    exec (.ejectTimerExpiry l) s = .next (raise .laneFault (some l)
      (match (s.lane l).ctl.ejectSubject with
        | some n => n
        | none => 0) 1
      (s.modCtl l fun c => { c with state := .fault, ejectTimer := none }))

/-! ### Station ports -/

/-- A byte that completes no record extends its slot's assembler and restarts that assembler's 2 ms gap timer; nothing
else changes, whatever the lane state and however full the slot (nor the address lines' level, log 30). When the gap timer expires the partial record is lost: the
slot's overrun count rises, saturating at 255; a lost START in ARMED or SPRAYING adds STROBE_LOSS to the lane's board, a
lost reading in CHECKING adds INSPECTION_LOSS, a lost END adds nothing, and a lost BOARD record raises STRAY_BOARD with
serial 0 and source 3. -/
def Obligations.PartialRecordsAreAssembledOrLost : Prop :=
  (∀ (s : State) (l : LaneId) (b : Byte),
     let gap := some (s.clock + 2#32)
     ((s.lane l).station.startAsm.bytes = [] →
       exec (.stationByteWritten l .startSlot b) s =
         .next (s.modStation l fun st => { st with startAsm := ⟨[b], gap⟩ })) ∧
     ((s.lane l).station.endAsm.bytes = [] →
       exec (.stationByteWritten l .endSlot b) s =
         .next (s.modStation l fun st => { st with endAsm := ⟨[b], gap⟩ })) ∧
     ((s.lane l).station.inspectAsm.bytes = [] →
       exec (.stationByteWritten l .inspectSlot b) s =
         .next (s.modStation l fun st => { st with inspectAsm := ⟨[b], gap⟩ })) ∧
     ∀ got : List Byte, (s.lane l).station.boardAsm.bytes = got → got.length < 4 → (got ++ [b]).head? = some 1#8 →
       exec (.stationByteWritten l .boardSlot b) s =
         .next (s.modStation l fun st => { st with boardAsm := ⟨got ++ [b], gap⟩ })) ∧
  ∀ (s : State) (l : LaneId) (t : Time), reached s.clock t = true →
    let x := (s.lane l).ctl.state
    let add (r : Reason) (u : State) : State := match s.board l with
      | some b => u.addReason b.serial r
      | none => u
    ((s.lane l).station.startAsm.gap = some t →
      let u := s.modStation l fun st => { st with
        startAsm := ⟨[], none⟩, startOverruns := min 255 (st.startOverruns + 1) }
      exec (.stationGapExpiry l .startSlot) s = .next (if x = .armed ∨ x = .spraying then add .strobeLoss u else u)) ∧
    ((s.lane l).station.endAsm.gap = some t →
      exec (.stationGapExpiry l .endSlot) s = .next (s.modStation l fun st => { st with
        endAsm := ⟨[], none⟩, endOverruns := min 255 (st.endOverruns + 1) })) ∧
    ((s.lane l).station.inspectAsm.gap = some t →
      let u := s.modStation l fun st => { st with
        inspectAsm := ⟨[], none⟩, inspectOverruns := min 255 (st.inspectOverruns + 1) }
      exec (.stationGapExpiry l .inspectSlot) s = .next (if x = .checking then add .inspectionLoss u else u)) ∧
    ((s.lane l).station.boardAsm.gap = some t →
      exec (.stationGapExpiry l .boardSlot) s = .next (raise .strayBoard (some l) 0 3 (s.modStation l fun st => { st with
        boardAsm := ⟨[], none⟩, boardOverruns := min 255 (st.boardOverruns + 1) })))

/-- The output lines. Busy follows the newly addressed slot: asserted while it is full. A valve drive is asserted exactly
while the lane is SPRAYING with its sequencer OPEN for a segment of that valve, never both of a lane; eject exactly in
EJECTING; a gate release exactly while its source holds the grant, a lane's exactly in TRANSFER. Every step keeps the law of
R115: the segment a sequencer runs is not suppressed for the lane's board; so with every board in its place a drive is on
only for an unsuppressed segment of the board at the station, the one at the cursor. -/
def Obligations.OutputLinesFollowTheState : Prop :=
  (∀ (s : State) (l : LaneId) (slot : StationSlot),
     let t := s.modStation l fun st => { st with address := slot }
     let st := (s.lane l).station
     exec (.slotAddressChange l slot) s = .next t ∧
     t.busyLine l = (match slot with
       | .startSlot => st.startSlot.isSome
       | .endSlot => st.endSlot.isSome
       | .inspectSlot => decide (4 ≤ st.inspectQueue.length)
       | .boardSlot => st.boardSlot.isSome)) ∧
  (∀ (s : State) (l : LaneId),
     (∀ v, s.valveDrive l v = true ↔ (s.lane l).ctl.state = .spraying ∧ (s.lane l).path.seq = .opened ∧ ∃ seg,
       (s.lane l).path.executing = some seg.number ∧
       (s.lane l).path.queue.find? (fun x => decide (x.number = seg.number)) = some seg ∧ seg.valve = v) ∧
     ¬ (s.valveDrive l .bead = true ∧ s.valveDrive l .atomize = true) ∧
     (s.ejectDrive l = true ↔ (s.lane l).ctl.state = .ejecting) ∧
     (∀ src, s.gateRelease src = true ↔ s.gate.grant = some src)) ∧
  (∀ s t : State, s.Placed → s.ClearingFindsNoReference → (∀ l, s.RunsUnsuppressed l) → step s = .next t →
     ∀ l, t.RunsUnsuppressed l) ∧
  ∀ (s : State) (l : LaneId), s.Placed → s.RunsUnsuppressed l →
    (s.gateRelease (.lane l) = true ↔ (s.lane l).ctl.state = .transfer) ∧
    ∀ v, s.valveDrive l v = true → ∃ b seg, s.board l = some b ∧ seg ∈ (s.lane l).path.queue ∧
      seg.number = (s.lane l).path.cursor ∧ seg.valve = v ∧ s.Unsuppressed b seg

/-- The last byte of an ARRIVED, by lane state: an IDLE lane takes a match at the head into CHECKING with the check
started, asks for a hold with ARRIVAL_ORDER for a match further down, and ejects any other serial as a stray of source
1; an OFF lane reports a stray of source 2; in every other state the record waits; at a full slot it is lost. -/
def Obligations.ArrivedIsMatchedByLaneState : Prop :=
  ∀ (s : State) (l : LaneId) (n : Serial), n < 2 ^ 32 →
    (s.lane l).station.boardAsm.bytes = 1#8 :: (bytes32 n).take 3 →
    let u := s.modStation l fun st => { st with boardAsm := ⟨[], none⟩ }
    let q := (s.lane l).ctl.queue
    let run (t : State) : Prop := exec (.arrived l (toByte n)) s = .next t
    ((s.lane l).station.boardSlot.isSome = true →
      run (raise .strayBoard (some l) n 3
        (u.modStation l fun st => { st with boardOverruns := min 255 (st.boardOverruns + 1) }))) ∧
    ((s.lane l).station.boardSlot = none → (s.lane l).ctl.state = .off → run (raise .strayBoard (some l) n 2 u)) ∧
    ((s.lane l).station.boardSlot = none → (s.lane l).ctl.state ≠ .off → (s.lane l).ctl.state ≠ .idle →
      run (u.modStation l fun st => { st with boardSlot := some (.arrived n) })) ∧
    ((s.lane l).station.boardSlot = none → (s.lane l).ctl.state = .idle → (∀ e ∈ q, e.serial ≠ n) →
      run ((raise .strayBoard (some l) n 1 u).modCtl l fun c => { c with
        state := .ejecting, ejectSubject := none
        ejectTimer := some (s.clock + BitVec.ofNat 32 (c.settings.ejectTimeout * 1000)) })) ∧
    (∀ b, (s.lane l).station.boardSlot = none → (s.lane l).ctl.state = .idle → s.record? n = some b →
      q.head?.map (·.serial) = some n →
      run (({ u with records := u.records.map fun r : BoardRecord => if r.serial = n then { r with
            stage := .checking, location := .lane l, verdicts := Vector.replicate 16 .unread } else r }.modCtl l
          fun c => { c with state := .checking, queue := c.queue.filter fun e => decide (e.serial ≠ n) }).modChecker l
        fun m => { m with
          checkTimer := some (s.clock +
            BitVec.ofNat 32 ((s.store.slots[b.slot]).timingD.inspectTimeout * 1000))
          paceTimer := none, ready := true })) ∧
    (∀ b, (s.lane l).station.boardSlot = none → (s.lane l).ctl.state = .idle → s.record? n = some b →
      (∃ e ∈ q, e.serial = n) → q.head?.map (·.serial) ≠ some n →
      run (((u.modCtl l fun c => { c with queue := c.queue.filter fun e => decide (e.serial ≠ n) }).addReason n
        .arrivalOrder).laneHold l n))

/-- A CLEARED byte: in EJECTING it stops the eject timer and brings the lane to IDLE, or to OFF with disable-pending
cleared; in every other state it is discarded; at a slot where an ARRIVED waits it is lost, in EJECTING as elsewhere (log
10). The end of an eject, wherever a record waits in the slot, takes it: matched in IDLE, a stray of source 2 in OFF. -/
def Obligations.ClearedEndsEject : Prop :=
  ∀ (s : State) (l : LaneId) (b : Byte), b ≠ 1#8 → (s.lane l).station.boardAsm.bytes = [] →
    let u := s.modStation l fun st => { st with boardAsm := ⟨[], none⟩ }
    let off := (s.lane l).ctl.disablePending
    let ended (v : State) : State := v.modCtl l fun c => { c with
      state := if off then .off else .idle
      disablePending := false, ejectSubject := none, ejectTimer := none }
    ((s.lane l).station.boardSlot = none →
      exec (.cleared l b) s = .next (if (s.lane l).ctl.state = .ejecting then ended u else u)) ∧
    ((s.lane l).station.boardSlot.isSome = true →
      exec (.cleared l b) s = .next (raise .strayBoard (some l) 0 3
        (u.modStation l fun st => { st with boardOverruns := min 255 (st.boardOverruns + 1) }))) ∧
    ∀ n, (s.lane l).station.boardSlot = some (.arrived n) → s.endEject l =
      let freed := (ended s).modStation l fun st => { st with boardSlot := none }
      if off then raise .strayBoard (some l) n 2 freed else freed.takeArrived l n

/-! ### Mask checking -/

/-- A complete inspection reading: lost at a full queue, late outside CHECKING, waiting while the checker is not ready, and
otherwise taken at once; and the pace timer's expiry, which takes the next one. A reading taken counts as unmapped at a
NONE entry, is combined into the verdict at a check slot (with MASK_FEATURE where the entry asks), and ends the check at
END, those behind it being late. -/
def Obligations.ReadingIsTakenByMapEntry : Prop :=
  ∀ (s : State) (l : LaneId),
    let x := (s.lane l).ctl.state
    let q := (s.lane l).station.inspectQueue
    let combined (v : Verdict) (r : ReadResult) : Verdict :=
      if v = .absent ∨ r = .absent then .absent
      else if v = .present ∨ r = .present then .present
      else .unreadable
    let take (v : State) (b : BoardRecord) (rd : Reading) (behind : Nat) : State :=
      let w := v.modChecker l fun m => { m with ready := false, paceTimer := some (s.clock + 1#32) }
      match (s.store.slots[b.slot]).map[rd.code] with
      | .none => w.modChecker l fun m => { m with unmappedCount := min 65535 (m.unmappedCount + 1) }
      | .checkSlot k flagged =>
        let t := { w with records := w.records.map fun (r : BoardRecord) =>
          if r.serial = b.serial then { r with verdicts := r.verdicts.set k (combined r.verdicts[k] rd.result) } else r }
        if flagged then raise .maskFeature (some l) b.serial (rd.code.val * 256 + readResultCode rd.result) t else t
      | .endMark => ((w.modStation l fun st => { st with inspectQueue := [] }).modChecker l fun m => { m with
          lateCount := min 65535 (m.lateCount + behind), checkTimer := none, paceTimer := none }).ruling l
    (∀ code result : Byte, (s.lane l).station.inspectAsm.bytes = [code] →
      let u := s.modStation l fun st => { st with inspectAsm := ⟨[], none⟩ }
      let rd : Reading :=
        ⟨code.toFin, if result = 1#8 then .present else if result = 2#8 then .absent else .unreadable⟩
      (4 ≤ q.length → x ≠ .checking → exec (.inspectReading l result) s =
        .next (u.modStation l fun st => { st with inspectOverruns := min 255 (st.inspectOverruns + 1) })) ∧
      (∀ b, 4 ≤ q.length → x = .checking → s.board l = some b → exec (.inspectReading l result) s =
        .next ((u.modStation l fun st => { st with inspectOverruns := min 255 (st.inspectOverruns + 1) }).addReason
          b.serial .inspectionLoss)) ∧
      (q.length < 4 → x ≠ .checking → exec (.inspectReading l result) s =
        .next ((u.modStation l fun st => { st with inspectQueue := [] }).modChecker l fun m => { m with
          lateCount := min 65535 (m.lateCount + (q.length + 1)) })) ∧
      (q.length < 4 → x = .checking → (s.lane l).checker.ready = false → exec (.inspectReading l result) s =
        .next (u.modStation l fun st => { st with inspectQueue := q ++ [rd] })) ∧
      (∀ b, q = [] → x = .checking → (s.lane l).checker.ready = true → s.board l = some b →
        exec (.inspectReading l result) s = .next (take u b rd 0))) ∧
    ∀ t, (s.lane l).checker.paceTimer = some t → reached s.clock t = true →
      (x ≠ .checking → exec (.paceTimerExpiry l) s =
        .next (s.modChecker l fun m => { m with paceTimer := none })) ∧
      (x = .checking → q = [] → exec (.paceTimerExpiry l) s =
        .next (s.modChecker l fun m => { m with paceTimer := none, ready := true })) ∧
      (∀ b rd rest, x = .checking → q = rd :: rest → s.board l = some b → exec (.paceTimerExpiry l) s =
        .next (take (s.modStation l fun st => { st with inspectQueue := rest }) b rd rest.length))

/-- The check timer's expiry in CHECKING ends the check, the waiting readings being late, and rules the board in the same
event: with a CRITICAL check slot unmasked it is held for MASK_CRITICAL with those slots; else with a path of another slot
it is held for PATH_MISMATCH; else the lane enters ARMED. -/
def Obligations.CheckEndRulesTheBoard : Prop :=
  ∀ (s : State) (l : LaneId) (t : Time) (b : BoardRecord), (s.lane l).checker.checkTimer = some t →
    reached s.clock t = true → (s.lane l).ctl.state = .checking → s.board l = some b →
    let u := (s.modStation l fun st => { st with inspectQueue := [] }).modChecker l fun m => { m with
      checkTimer := none, paceTimer := none, ready := false
      lateCount := min 65535 (m.lateCount + (s.lane l).station.inspectQueue.length) }
    let unmasked (k : Fin 16) : Bool := decide ((s.store.slots[b.slot]).featuresD[k.val]? = some .critical) &&
      decide (b.verdicts[k] ≠ .present)
    let pe := (s.lane l).path
    ((∃ k, unmasked k = true) → exec (.checkTimerExpiry l) s = .next (State.laneHold { u with
      records := u.records.map fun (r : BoardRecord) => if r.serial = b.serial then { r with
          reasons := r.reasons.set Reason.maskCritical.idx true
          maskCritical := Vector.ofFn fun k => r.maskCritical[k] || unmasked k } else r } l b.serial)) ∧
    ((∀ k, unmasked k = false) → pe.state ≠ .empty → pe.slot ≠ some b.slot →
      exec (.checkTimerExpiry l) s = .next ((u.addReason b.serial .pathMismatch).laneHold l b.serial)) ∧
    ((∀ k, unmasked k = false) → pe.state = .empty ∨ pe.slot = some b.slot →
      exec (.checkTimerExpiry l) s = .next (({ u with
        records := u.records.map fun (r : BoardRecord) => if r.serial = b.serial then { r with stage := .armed } else r }.modCtl l
          fun c => { c with state := .armed }).modPath l fun pe => { pe with cursor := 1, seq := .closed, gapTimer := none }))

/-! ### Hold requests -/

/-- The reserve: a lane-class request is granted with 3 free entries or more, the lane then ejecting the board, and
otherwise leaves the lane BLOCKED with it; an oven-class request is granted with 1 or more and otherwise removes the
record; the retry of a BLOCKED lane is judged like a first request and changes nothing when refused. The entry's wet flag
and escalation deadline are those of the record; that a deadline reckoned from an old spray end time is stored as the Line
Clock time is the model's reading (log 25). -/
def Obligations.HoldRequestIsSettledByClass : Prop :=
  ∀ (s : State) (l : LaneId) (n : Serial) (b : BoardRecord), s.record? n = some b →
    let free := 16 - s.holds.length
    let wet := b.coated && !b.cured
    let limit := BitVec.ofNat 32 ((s.store.slots[b.slot]).timingD.wetHold * 1000)
    let entry (loc : HoldLocation) : HoldEntry :=
      { serial := n, location := loc, created := s.clock, wet := wet, state := .pending
        deadline := if wet then some (match b.sprayEnd with
          | none => s.clock + limit
          | some e => if e.old then s.clock else e.time + limit) else none }
    let held (u : State) (loc : HoldLocation) : State := raise .holdCreated (some b.lane) n loc.code { u with
      holds := s.holds ++ [entry loc]
      records := u.records.map fun (r : BoardRecord) => if r.serial = n then { r with stage := .held, location := .hold } else r }
    let ejecting (u : State) : State := u.modCtl l fun c => { c with
      state := .ejecting, ejectSubject := some n
      ejectTimer := some (s.clock + BitVec.ofNat 32 (c.settings.ejectTimeout * 1000)) }
    let x := (s.lane l).ctl.state
    let u := { s with gate := { s.gate with
          exit0 := if l = LaneId.lane0 then none else s.gate.exit0
          exit1 := if l = LaneId.lane1 then none else s.gate.exit1 } }.modPath l fun pe =>
        { pe with gapTimer := none, cursor := if x = LaneState.armed ∨ x = LaneState.spraying then 1 else pe.cursor }
    s.laneHold l n = (if 3 ≤ free then ejecting (held u (.lane l))
      else raise .laneBlocked (some l) n free ({ u with
        records := u.records.map fun (r : BoardRecord) => if r.serial = n then { r with location := .lane l } else r }.modCtl l
          fun c => { c with state := .blocked })) ∧
    (∀ loc, s.ovenHold b loc = if 1 ≤ free then held s loc
      else raise .holdOverflow (some b.lane) n 1 { s with records := s.records.filter fun (r : BoardRecord) => decide (r.serial ≠ n) }) ∧
    (x = .blocked → s.board l = some b → s.retryLane l = if 3 ≤ free then ejecting (held s (.lane l)) else s)

/-! ### Path commands -/

/-- PATH_BEGIN: its conditions in their order, each with its status. A lane that is ARMED or SPRAYING with a board of
another slot holds the board for PATH_MISMATCH while the command is refused; accepted, the path is OPEN with the resolved
slot and an empty queue, and the cursor is 1 unless the lane is ARMED or SPRAYING. The WRONG_STATE of an ARMED or SPRAYING
lane without a board, which no run reaches, is the model's choice (log 15). -/
def Obligations.PathBeginOpensThePath : Prop :=
  ∀ (s : State) (tag : Byte) (rest : List Frame) (l : LaneId) (a : Nat), 1 ≤ a → a ≤ 65535 →
    let payload := toByte (laneNumber l) :: bytes16 a
    s.Ready .line ⟨0x50#8, tag, payload⟩ rest →
    let u := s.taken .line rest
    let x := (s.lane l).ctl.state
    let answer (v : State) (fields : List Byte) : State :=
      v.answered .line (s.txLength .line) ⟨false, ⟨0xD0#8, tag, fields⟩⟩
    exec (.pathBegin .line tag payload) s = .next (
      if s.store.clearTimer.isSome then answer u [8#8]
      else if (s.lane l).path.state ≠ .empty then answer u [9#8]
      else match s.store.aliasTable.find? fun e => decide (e.1 = a) with
        | none => answer u [5#8]
        | some (_, i) =>
          if (s.store.slots[i]).state ≠ .ready then answer u [9#8]
          else
            let opened (cursor : Nat) : State := u.modPath l fun pe => { pe with
              state := .opened, slot := some i, keep := false, queue := [], last := none, cursor := cursor }
            if x = .armed ∨ x = .spraying then
              match s.board l with
              | none => answer u [9#8]
              | some b => if b.slot = i then answer (opened (s.lane l).path.cursor) [0#8, toByte i.val]
                else answer ((u.addReason b.serial .pathMismatch).laneHold l b.serial) [9#8]
            else answer (opened 1) [0#8, toByte i.val])

/-- SEGMENTS of 1 to 8 records that fit the path's slot and are numbered on from the last loaded one: refused FULL when the
queue has fewer free places, otherwise all join its tail, each flow above 2 000 stored as 2 000, and the reply, CLAMPED when
one was reduced, carries the last number and the free places. On a path that is not OPEN it is WRONG_STATE, and with a record
that fails a condition of R103 or is numbered out of its place BAD_VALUE, however full the queue. That records numbered on
beyond 128 are FULL and not BAD_VALUE is the model's reading (log 23). -/
def Obligations.SegmentsJoinTheQueue : Prop :=
  (∀ (s : State) (tag : Byte) (rest : List Frame) (l : LaneId) (segs : List Segment),
    1 ≤ segs.length → segs.length ≤ 8 →
    let payload := toByte (laneNumber l) :: segs.flatMap Segment.bytes
    s.Ready .line ⟨0x51#8, tag, payload⟩ rest →
    let u := s.taken .line rest
    let q := (s.lane l).path.queue
    let answer (v : State) (fields : List Byte) : State :=
      v.answered .line (s.txLength .line) ⟨false, ⟨0xD1#8, tag, fields⟩⟩
    ((∀ x ∈ segs, x.tags.length ≤ 4) → (s.lane l).path.state ≠ .opened →
      exec (.segments .line tag payload) s = .next (answer u [9#8])) ∧
    ∀ i, (s.lane l).path.state = .opened → (s.lane l).path.slot = some i → (s.lane l).path.Numbered →
      q.length ≤ 128 → segs.map (·.number) = (List.range segs.length).map (fun j => q.length + 1 + j) →
      (∀ x ∈ segs, x.Fits (s.store.slots[i])) →
      exec (.segments .line tag payload) s = .next (
        if 128 < q.length + segs.length then answer u [7#8]
        else answer (u.modPath l fun pe => { pe with queue := q ++ segs.map fun x => { x with flow := min 2000 x.flow } })
          ((if ∃ x ∈ segs, 2000 < x.flow then 1#8 else 0#8) :: bytes16 (q.length + segs.length) ++
            [toByte (128 - (q.length + segs.length))]))) ∧
  ∀ (s : State) (tag : Byte) (rest : List Frame) (l : LaneId) (i : Fin 8) (xs : List (List Byte)),
    1 ≤ xs.length → xs.length ≤ 8 → (∀ x ∈ xs, x.length = 15) →
    (s.lane l).path.state = .opened → (s.lane l).path.slot = some i → (s.lane l).path.Numbered →
    (∃ j < xs.length, SegmentBytesFail (s.store.slots[i]) ((s.lane l).path.queue.length + 1 + j) (xs.getD j [])) →
    let payload := toByte (laneNumber l) :: xs.flatten
    s.Ready .line ⟨0x51#8, tag, payload⟩ rest →
    exec (.segments .line tag payload) s =
      .next ((s.taken .line rest).answered .line (s.txLength .line) ⟨false, ⟨0xD1#8, tag, [4#8]⟩⟩)

/-- PATH_END declares n and completes an OPEN path that holds a segment, ending the spray at once when a SPRAYING lane's
cursor is past n; PATH_KEEP sets the keep flag of a path that is not EMPTY; PATH_DISCARD empties the path outside ARMED and
SPRAYING and replies the records discarded. Otherwise each is WRONG_STATE. -/
def Obligations.PathEndKeepAndDiscard : Prop :=
  ∀ (s : State) (tag : Byte) (rest : List Frame) (l : LaneId),
    let u := s.taken .line rest
    let pe := (s.lane l).path
    let answer (kind : Byte) (v : State) (fields : List Byte) : Host.Outcome State Fault Refusal :=
      .next (v.answered .line (s.txLength .line) ⟨false, ⟨kind, tag, fields⟩⟩)
    (s.Ready .line ⟨0x52#8, tag, [toByte (laneNumber l)]⟩ rest →
      (pe.state ≠ .opened ∨ pe.queue = [] →
        exec (.pathEnd .line tag [toByte (laneNumber l)]) s = answer 0xD2#8 u [9#8]) ∧
      ∀ x, pe.state = .opened → pe.queue.getLast? = some x →
        let v := u.modPath l fun pe => { pe with state := .complete, last := some x.number }
        exec (.pathEnd .line tag [toByte (laneNumber l)]) s = answer 0xD2#8
          (if (s.lane l).ctl.state = .spraying ∧ x.number < pe.cursor then v.sprayEnd l else v)
          (0#8 :: bytes16 x.number)) ∧
    (∀ on : Bool, s.Ready .line ⟨0x53#8, tag, [toByte (laneNumber l), flagByte on]⟩ rest →
      exec (.pathKeep .line tag [toByte (laneNumber l), flagByte on]) s =
        if pe.state = .empty then answer 0xD3#8 u [9#8]
        else answer 0xD3#8 (u.modPath l fun pe => { pe with keep := on }) [0#8]) ∧
    (s.Ready .line ⟨0x54#8, tag, [toByte (laneNumber l)]⟩ rest →
      exec (.pathDiscard .line tag [toByte (laneNumber l)]) s =
        if (s.lane l).ctl.state = .armed ∨ (s.lane l).ctl.state = .spraying then answer 0xD4#8 u [9#8]
        else answer 0xD4#8 (u.modPath l fun pe => { pe with
            state := .empty, slot := none, keep := false, queue := [], last := none, cursor := 1 })
          [0#8, toByte pe.queue.length])

/-! ### Strobes and the sequencer -/

/-- The last byte of a START: lost at a full slot; stale outside ARMED and SPRAYING; waiting while a segment runs; and
otherwise judged against the cursor: stale below it or beyond n, else taking the lane to SPRAYING, the skipped segments
MISSED with STROBE_SKIP, and its own segment MISSED with PATH_UNDERRUN, DRY when suppressed, or started. -/
def Obligations.StartStrobeIsJudgedByCursor : Prop :=
  ∀ (s : State) (l : LaneId) (high low : Byte), (s.lane l).station.startAsm.bytes = [high] →
    let k := high.toNat * 256 + low.toNat
    let x := (s.lane l).ctl.state
    let pe := (s.lane l).path
    let u := s.modStation l fun st => { st with startAsm := ⟨[], none⟩ }
    let run (t : State) : Prop := exec (.startStrobe l low) s = .next t
    let lost := u.modStation l fun st => { st with startOverruns := min 255 (st.startOverruns + 1) }
    let stale := raise .strobeStale (some l) (match s.board l with
      | some b => b.serial
      | none => 0) k u
    ((s.lane l).station.startSlot.isSome = true → x ≠ .armed → x ≠ .spraying → run lost) ∧
    ((s.lane l).station.startSlot = none → x ≠ .armed → x ≠ .spraying → run stale) ∧
    ∀ b, s.board l = some b → x = .armed ∨ x = .spraying →
      ((s.lane l).station.startSlot.isSome = true → run (lost.addReason b.serial .strobeLoss)) ∧
      ((s.lane l).station.startSlot = none →
        (pe.seq ≠ .closed → run (u.modStation l fun st => { st with startSlot := some k })) ∧
        (pe.seq = .closed → k < pe.cursor ∨ (∃ n, pe.state = .complete ∧ pe.last = some n ∧ n < k) → run stale) ∧
        (pe.seq = .closed → pe.cursor ≤ k → (pe.state = .complete → ∃ n, pe.last = some n ∧ k ≤ n) →
          let spraying := if x = .armed then { u with
              records := u.records.map fun (r : BoardRecord) => if r.serial = b.serial then { r with stage := .spraying } else r }.modCtl l
                fun c => { c with state := .spraying } else u
          let missed := pe.queue.filter fun y => decide (pe.cursor ≤ y.number ∧ y.number < k)
          let at_ := if pe.cursor < k then ((spraying.handOverAll l missed).modPath l fun pe => { pe with
              cursor := k }).addReason b.serial .strobeSkip else spraying
          let before := (pe.queue.filter fun y => decide (pe.cursor ≤ y.number)).length
          let suppressed (seg : Segment) : Prop := b.passAreas[seg.area] = false ∨ ∃ t ∈ seg.tags,
            (s.store.slots[b.slot]).featuresD[t.val]? = some .suppress ∧ b.verdicts[t] ≠ .present
          match pe.queue.find? fun y => decide (y.number = k) with
          | none => run ((((at_.modPath l fun pe => { pe with cursor := k + 1 }).addReason b.serial
              .pathUnderrun).judgeFall l before).afterOutcome l)
          | some seg =>
            (suppressed seg → run ((((at_.handOver l seg 0 0).modPath l fun pe => { pe with
              cursor := k + 1 }).judgeFall l before).afterOutcome l)) ∧
            (¬ suppressed seg →
              let delay := match seg.valve with
                | .bead => (s.lane l).ctl.settings.onDelayBead
                | .atomize => (s.lane l).ctl.settings.onDelayAtomize
              let started := (at_.judgeFall l before).modLane l fun y => { y with
                meter := { y.meter with segPulses := 0 }
                path := { y.path with seq := .openDelay, executing := some k, gapTimer := none, openTime := 0,
                                      phaseTimer := some (s.clock + BitVec.ofNat 32 delay) } }
              run (if delay = 0 then started.endOpenDelay l seg else started))))

/-- The END of OPEN_DELAY, OPEN and CLOSING by time, for an executing segment with no START waiting: with an open time of
0 OPEN_DELAY completes the segment, otherwise the sequencer is OPEN for it and the board coated; OPEN goes to CLOSING with
that open time, completing at once for a close settle of 0; CLOSING completes the segment, and a START that waits is then
judged. -/
def Obligations.SequencerPhasesFollowTheSettings : Prop :=
  ∀ (s : State) (l : LaneId) (t : Time) (seg : Segment) (b : BoardRecord), (s.lane l).path.phaseTimer = some t →
    reached s.clock t = true → (s.lane l).ctl.state = .spraying → s.board l = some b →
    (s.lane l).path.executing = some seg.number →
    (s.lane l).path.queue.find? (fun y => decide (y.number = seg.number)) = some seg →
    let c := (s.lane l).ctl.settings
    let openTime := match seg.valve with
      | .bead => 100 * seg.length / seg.speed - c.closeLeadBead
      | .atomize => 100 * seg.length / seg.speed - c.closeLeadAtomize
    let settle := match seg.valve with
      | .bead => c.closeSettleBead
      | .atomize => c.closeSettleAtomize
    ((s.lane l).path.seq = .openDelay → exec (.openDelayEnd l) s = .next (
      if openTime = 0 then ((s.modPath l fun pe => { pe with openTime := 0 }).finishSegment l).serveStart l
      else { s with records := s.records.map fun (r : BoardRecord) => if r.serial = b.serial then { r with coated := true } else r }.modPath
        l fun pe => { pe with
          seq := .opened, openedAt := s.clock, phaseTimer := some (s.clock + BitVec.ofNat 32 openTime) })) ∧
    ((s.lane l).path.seq = .opened →
      let closing := s.modPath l fun pe => { pe with
        seq := .closing, openTime := openTime, phaseTimer := some (s.clock + BitVec.ofNat 32 settle) }
      exec (.openEnd l) s = .next (if settle = 0 then (closing.finishSegment l).serveStart l else closing)) ∧
    ((s.lane l).path.seq = .closing → exec (.closingEnd l) s = .next ((s.finishSegment l).serveStart l))

/-- The last byte of an END while the END slot is free: for the executing segment of a SPRAYING lane it cuts OPEN_DELAY
with an actual open time of 0, and OPEN with the time elapsed since it was entered, into CLOSING; every other END is
consumed and changes nothing. -/
def Obligations.EndStrobeCutsTheOpenPhase : Prop :=
  ∀ (s : State) (l : LaneId) (high low : Byte), (s.lane l).station.endAsm.bytes = [high] →
    (s.lane l).station.endSlot = none →
    let k := high.toNat * 256 + low.toNat
    let pe := (s.lane l).path
    let u := s.modStation l fun st => { st with endAsm := ⟨[], none⟩ }
    (∀ seg, (s.lane l).ctl.state = .spraying → pe.executing = some k →
      pe.queue.find? (fun y => decide (y.number = k)) = some seg →
      let settle := match seg.valve with
        | .bead => (s.lane l).ctl.settings.closeSettleBead
        | .atomize => (s.lane l).ctl.settings.closeSettleAtomize
      let closing (openTime : Nat) : State := u.modPath l fun pe => { pe with
        seq := .closing, openTime := openTime, phaseTimer := some (s.clock + BitVec.ofNat 32 settle) }
      let cut (openTime : Nat) : State :=
        if settle = 0 then ((closing openTime).finishSegment l).serveStart l else closing openTime
      (pe.seq = .openDelay → exec (.endStrobe l low) s = .next (cut 0)) ∧
      (pe.seq = .opened → exec (.endStrobe l low) s = .next (cut (s.clock - pe.openedAt).toNat))) ∧
    ((s.lane l).ctl.state ≠ .spraying ∨ pe.executing ≠ some k ∨ pe.seq = .closing ∨ pe.seq = .closed →
      exec (.endStrobe l low) s = .next u)

/-- A completion: the segment is handed over with its pulses and open time, the cursor goes past it, and the fall of the
unexecuted count is judged; on an OPEN path QUEUE_LOW is raised for a fall through the low-water mark, and in SPRAYING
QUEUE_EMPTY for a fall to 0. Then the spray ends when the cursor is past the n of a COMPLETE path, and otherwise the gap
timer starts. A cursor of 65 536 has an open code (log 9). -/
def Obligations.CompletionAdvancesCursorAndRaisesQueueEvents : Prop :=
  ∀ (s : State) (l : LaneId),
    (∀ before, let pe := (s.lane l).path
      let now := (pe.queue.filter fun y => decide (pe.cursor ≤ y.number)).length
      let serial := match s.board l with
        | some b => b.serial
        | none => 0
      let low := (s.lane l).ctl.settings.lowWater
      pe.cursor < 65536 → s.judgeFall l before =
        if pe.state ≠ .opened then s
        else
          let s1 := if low ≤ before ∧ now < low then
            raise (if l = LaneId.lane0 then .queueLow0 else .queueLow1) (some l) serial now s else s
          if (s.lane l).ctl.state = .spraying ∧ 1 ≤ before ∧ now = 0 then
            raise (if l = LaneId.lane0 then .queueEmpty0 else .queueEmpty1) (some l) serial pe.cursor s1
          else s1) ∧
    s.afterOutcome l = (if (s.lane l).path.state = .complete ∧ (s.lane l).path.last.getD 0 < (s.lane l).path.cursor then
        s.sprayEnd l
      else s.modPath l fun pe => { pe with
        gapTimer := some (s.clock + BitVec.ofNat 32 ((s.lane l).ctl.settings.gapLimit * 1000)) }) ∧
    ∀ seg, (s.lane l).path.executing = some seg.number →
      (s.lane l).path.queue.find? (fun y => decide (y.number = seg.number)) = some seg →
      s.finishSegment l = State.afterOutcome (State.judgeFall
        ((s.handOver l seg (s.lane l).meter.segPulses (s.lane l).path.openTime).modPath l fun pe => { pe with
          seq := .closed, executing := none, phaseTimer := none, cursor := pe.cursor + 1 }) l
        ((s.lane l).path.queue.filter fun y => decide ((s.lane l).path.cursor ≤ y.number)).length) l

/-- The gap timer's expiry in SPRAYING: every loaded segment from the cursor on is MISSED, PATH_TIMEOUT is added and the
spray ends. A spray end sets the spray end time, judges the film of the pass areas, holds a HOLD_WET board with a spray
reason and otherwise sends the lane to EXIT_WAIT as a requester, and settles the path: kept only when COMPLETE with keep
on. -/
def Obligations.SprayEndJudgesFilmAndSettlesThePath : Prop :=
  ∀ (s : State) (l : LaneId) (b : BoardRecord), s.board l = some b → (s.records.map (·.serial)).Nodup →
    (s.store.slots[b.slot]).timingD.flashOff ≤ 1800 →
    (∀ t, (s.lane l).path.gapTimer = some t → reached s.clock t = true → (s.lane l).ctl.state = .spraying →
      let left := (s.lane l).path.queue.filter fun y => decide ((s.lane l).path.cursor ≤ y.number)
      let stopped := s.modPath l fun pe => { pe with gapTimer := none }
      exec (.segmentGapExpiry l) s = .next ((((stopped.handOverAll l left).modPath l fun pe => { pe with
        cursor := max pe.cursor ((match pe.queue.getLast? with
          | some y => y.number
          | none => 0) + 1) }).addReason b.serial .pathTimeout).sprayEnd l)) ∧
    (let r := s.store.slots[b.slot]
      let out (test : Nat → AreaSpec → Bool) (a : Fin 12) : Bool := match r.areasD[a.val]? with
        | some x => b.passAreas[a] && test (film b.tallies[a] x.area) x
        | none => false
      let low (a : Fin 12) : Bool := out (fun f x => decide (f < x.filmMin)) a
      let high (a : Fin 12) : Bool := out (fun f x => decide (x.filmMax < f)) a
      let judged : BoardRecord := { b with
        sprayEnd := some ⟨s.clock, false⟩
        filmLow := Vector.ofFn fun a => b.filmLow[a] || low a
        filmHigh := Vector.ofFn fun a => b.filmHigh[a] || high a
        reasons := Vector.ofFn fun i => b.reasons[i] || (decide (i = Reason.filmLow.idx) && (List.finRange 12).any low) ||
          (decide (i = Reason.filmHigh.idx) && (List.finRange 12).any high) }
      let settled (pe : PathExec) : PathExec := if pe.state = .complete ∧ pe.keep = true then { pe with cursor := 1 }
        else { pe with state := .empty, slot := none, keep := false, queue := [], last := none, cursor := 1 }
      let u := { s with records := s.records.map fun (y : BoardRecord) => if y.serial = b.serial then judged else y }.modPath l fun pe =>
        { pe with seq := .closed, gapTimer := none }
      if (∃ i : Fin 20, 4 ≤ i.val + 1 ∧ i.val + 1 ≤ 12 ∧ judged.reasons[i] = true) ∧ r.timingD.policy = .holdWet then
        s.sprayEnd l = (u.laneHold l b.serial).modPath l settled
      else
        let w : Option Waiting := some
          { serial := b.serial, flashReady := s.clock + BitVec.ofNat 32 (r.timingD.flashOff * 1000)
            deadline := some (s.clock + BitVec.ofNat 32 (r.timingD.maxOpen * 1000))
            eligible := decide (r.timingD.flashOff = 0), flashTimer := true }
        let v := ({ u with
          records := u.records.map fun (y : BoardRecord) => if y.serial = b.serial then { y with stage := .flashing } else y
          gate := { u.gate with
            exit0 := if l = LaneId.lane0 then w else u.gate.exit0
            exit1 := if l = LaneId.lane1 then w else u.gate.exit1 } }.modCtl l fun c => { c with
              state := .exitWait }).modPath l settled
        s.sprayEnd l = if r.timingD.flashOff = 0 then v.reevaluate else v)

/-! ### Metering -/

/-- Each flow-meter pulse goes to exactly one count, by lane state and sequencer: the segment's, the current board's drip
(adding DRIP above its limit) or the lane's idle drip, each saturating at 65 535. -/
def Obligations.FlowPulseGoesToOneCount : Prop :=
  ∀ (s : State) (l : LaneId),
    let x := (s.lane l).ctl.state
    let seq := (s.lane l).path.seq
    (x = .spraying → seq = .opened ∨ seq = .closing → exec (.flowPulse l) s =
      .next (s.modMeter l fun m => { m with segPulses := min 65535 (m.segPulses + 1) })) ∧
    (∀ b, s.board l = some b → (s.records.map (·.serial)).Nodup →
      (x = .spraying ∧ (seq = .closed ∨ seq = .openDelay)) ∨ x = .checking ∨ x = .armed ∨ x = .exitWait →
      exec (.flowPulse l) s = .next { s with records := s.records.map fun (r : BoardRecord) => if r.serial = b.serial then { r with
          drip := min 65535 (b.drip + 1)
          reasons := if (s.store.slots[b.slot]).timingD.dripLimit < min 65535 (b.drip + 1) then
            r.reasons.set Reason.drip.idx true else r.reasons } else r }) ∧
    (x ∈ [LaneState.off, .idle, .transfer, .ejecting, .blocked, .fault] → exec (.flowPulse l) s =
      .next (s.modMeter l fun m => { m with idleDrip := min 65535 (m.idleDrip + 1) }))

/-- The metering arithmetic: a film is 10 × tally ÷ area rounded half up, at most 65 535. A completion with P pulses and
an open time of t ms adds the dry volume ⌊P × q × s ÷ 1000⌋ to its area's tally, saturating; when the expected volume f × t
is above 0 and the wet volume misses it by more than the tolerance, FLOW_DEVIATION is added and the nozzle count rises. -/
def Obligations.CompletionIsMeteredExactly : Prop :=
  (∀ tally area : Nat, 1 ≤ area → film tally area = min 65535 ⌊(10 * tally / area + 1 / 2 : ℚ)⌋₊) ∧
  ∀ (s : State) (l : LaneId) (b : BoardRecord) (seg : Segment) (pulses time : Nat), s.board l = some b →
    let m := (s.store.slots[b.slot]).materialD
    let dry := ⌊(pulses * m.pulseVolume * m.solids / 1000 : ℚ)⌋₊
    let wet : ℤ := pulses * m.pulseVolume
    let expected : ℤ := seg.flow * time
    let c := (s.lane l).ctl
    let u := { s with records := s.records.map fun (r : BoardRecord) => if r.serial = b.serial then
      { r with tallies := r.tallies.set seg.area (min (2 ^ 32 - 1) (r.tallies[seg.area] + dry)) } else r }
    let count := min 65535 (c.nozzleCount + 1)
    s.handOver l seg pulses time =
      if 0 < expected ∧ m.flowTolerance * expected < |wet - expected| * 100 then
        let v := u.addReason b.serial .flowDeviation
        if c.settings.nozzleLimit ≤ count ∧ c.serviceDue = false then
          raise .serviceDue (some l) 0 count (v.modCtl l fun c => { c with nozzleCount := count, serviceDue := true })
        else v.modCtl l fun c => { c with nozzleCount := count }
      else u

/-! ### The oven entry gate -/

/-- The gate's timers and the presence input. A flash-ready expiry makes the entry eligible and the gate re-evaluates; for a
return station in AWAITING it is only noted. A lane's deadline adds OPEN_TIME, removes the entry and asks for a hold; the
return station's adds WET_EXPIRED, asks for an oven-class hold and empties the station. Presence asserted in AWAITING makes
the entry, with the flash-ready and deadline reckoned before; every other change of presence only moves the level. That
presence re-evaluates the gate only where the entry it makes is eligible is the model's reading (log 19). -/
def Obligations.WaitingBoardsBecomeEligibleOrExpire : Prop :=
  ∀ s : State,
    exec (.returnPresenceChange s.gate.presence) s = .next s ∧
    (∀ level, level ≠ s.gate.presence → s.gate.station = none ∨ s.gate.grant = some .returnStation →
      exec (.returnPresenceChange level) s = .next { s with gate := { s.gate with presence := level } }) ∧
    (∀ l w, s.gate.exit l = some w → w.flashTimer = true → reached s.clock w.flashReady = true →
      let w' : Option Waiting := some { w with eligible := true, flashTimer := false }
      exec (.flashReadyExpiry (.lane l)) s = .next (State.reevaluate { s with gate := { s.gate with
        exit0 := if l = LaneId.lane0 then w' else s.gate.exit0
        exit1 := if l = LaneId.lane1 then w' else s.gate.exit1 } })) ∧
    (∀ l w t, s.gate.exit l = some w → w.deadline = some t → reached s.clock t = true →
      exec (.laneDeadlineExpiry l) s = .next ((State.addReason { s with gate := { s.gate with
        exit0 := if l = LaneId.lane0 then none else s.gate.exit0
        exit1 := if l = LaneId.lane1 then none else s.gate.exit1 } } w.serial .openTime).laneHold l w.serial)) ∧
    ∀ w, s.gate.station = some w → s.gate.grant ≠ some .returnStation →
      (w.flashTimer = true → reached s.clock w.flashReady = true →
        let u := { s with gate := { s.gate with station := some { w with eligible := true, flashTimer := false } } }
        exec (.flashReadyExpiry .returnStation) s = .next (if s.gate.presence then u.reevaluate else u)) ∧
      (∀ t b, w.deadline = some t → reached s.clock t = true → (s.addReason w.serial .wetExpired).record? w.serial = some b →
        let u := (s.addReason w.serial .wetExpired).ovenHold b .returnStation
        exec .returnDeadlineExpiry s = .next { u with gate := { u.gate with station := none } }) ∧
      (s.gate.presence = false →
        let eligible := w.eligible || reached s.clock w.flashReady
        let u := { s with gate := { s.gate with presence := true, station := some { w with eligible := eligible } } }
        exec (.returnPresenceChange true) s = .next (if eligible then u.reevaluate else u)) ∧
      (s.gate.presence = true → exec (.returnPresenceChange false) s = .next { s with gate := { s.gate with
        presence := false } })

/-- A re-evaluation: a gate that is not free, or with no eligible entry, grants nothing; a free one grants the eligible
entry of the earliest deadline, in the tie order Lane 0, Lane 1, return station. The grant names the source, whose board
becomes TRANSFER, stops its timers and starts the transfer timer. -/
def Obligations.GrantGoesToTheEarliestDeadline : Prop :=
  ∀ s : State,
    let free := s.gate.grant = none ∧ s.gate.ovenAccept = true ∧ s.oven.queue.length < 12 ∧
      ∀ e, s.oven.queue.getLast? = some e → s.settings.entrySpacing * 1000 ≤ e.position
    let timer := s.clock + BitVec.ofNat 32 s.settings.transferTimeout
    (¬ (free ∧ ∃ src w, s.Claims src w) → s.reevaluate = s) ∧
    ∀ src w, free → s.Claims src w → (∀ src' w', s.Claims src' w' → s.rank src w ≤ s.rank src' w') →
      s.reevaluate = { (match src with
        | .lane l => (s.modCtl l fun c => { c with state := .transfer })
        | .returnStation => s) with
          records := s.records.map fun (r : BoardRecord) => if r.serial = w.serial then { r with stage := .transfer } else r
          gate := match src with
            | .lane .lane0 => { s.gate with exit0 := none, grant := some src, transferTimer := some timer }
            | .lane .lane1 => { s.gate with exit1 := none, grant := some src, transferTimer := some timer }
            | .returnStation => { s.gate with
                station := some { w with flashTimer := false }, grant := some src, transferTimer := some timer } }

/-- OVEN_ACCEPT: WRONG_STATE with no layout; else the flag takes the value, the old one is replied, and turning it on
re-evaluates. SET_OVEN_LAYOUT with every value in its range: IN_USE while a board is in the oven or a grant is out; else the
layout is replaced, the zones are judged in zone order, and the total length is replied. With a pitch of 0 or a length
outside 100 to 20 000 it is BAD_VALUE, whatever the oven holds. -/
def Obligations.OvenCommandsSetAcceptAndLayout : Prop :=
  ∀ (s : State) (tag : Byte) (rest : List Frame),
    let u := s.taken .line rest
    let answer (kind : Byte) (v : State) (fields : List Byte) : Host.Outcome State Fault Refusal :=
      .next (v.answered .line (s.txLength .line) ⟨false, ⟨kind, tag, fields⟩⟩)
    (∀ on : Bool, s.Ready .line ⟨0x13#8, tag, [flagByte on]⟩ rest →
      exec (.ovenAccept .line tag [flagByte on]) s =
        if s.oven.layout = none then answer 0x93#8 u [9#8]
        else
          let v := { u with gate := { u.gate with ovenAccept := on } }
          answer 0x93#8 (if on = true ∧ s.gate.ovenAccept = false then v.reevaluate else v)
            [0#8, flagByte s.gate.ovenAccept]) ∧
    ∀ (pitch : Nat) (lengths : List Nat), pitch ≤ 65535 → 1 ≤ lengths.length → lengths.length ≤ 6 →
      (∀ x ∈ lengths, x ≤ 65535) →
      let payload := toByte lengths.length :: (bytes16 pitch ++ lengths.flatMap bytes16)
      s.Ready .line ⟨0x12#8, tag, payload⟩ rest →
      exec (.setOvenLayout .line tag payload) s =
        if pitch = 0 ∨ ∃ x ∈ lengths, x < 100 ∨ 20000 < x then answer 0x92#8 u [4#8]
        else if s.oven.queue ≠ [] ∨ s.gate.grant ≠ none then answer 0x92#8 u [6#8]
        else answer 0x92#8 (State.judgeZones { u with oven := { u.oven with layout := some ⟨pitch, lengths⟩ } }
          [0, 1, 2, 3, 4, 5]) (0#8 :: bytes32 lengths.sum)

/-- The entry sensor: under a grant the granted board joins the tail of the oven's queue at position 0, CURING at OVEN, the
grant ends, the lane enters IDLE (or OFF) and takes a waiting ARRIVED, or the return station is empty, and the gate
re-evaluates; with no grant the event is a stray of source 4. The transfer timer's expiry: the grant ends, TRANSFER_FAULT is
added, the board is held (lane-class, or oven-class at the return station, which becomes empty), and the gate
re-evaluates. -/
def Obligations.TransferEndsByEntryOrTimeout : Prop :=
  (∀ s : State,
     let entered (n : Serial) : State := { s with
       gate := { s.gate with grant := none, transferTimer := none }
       oven := { s.oven with queue := s.oven.queue ++ [⟨n, 0⟩] }
       records := s.records.map fun (r : BoardRecord) =>
         if r.serial = n then { r with stage := .curing, location := .oven } else r }
     (s.gate.grant = none → exec .ovenEntryEvent s = .next (raise .strayBoard none 0 4 s)) ∧
     (∀ l b, s.gate.grant = some (.lane l) → s.board l = some b → exec .ovenEntryEvent s =
       .next ((State.serveArrived ((entered b.serial).modCtl l fun c => { c with
         state := if c.disablePending then .off else .idle
         disablePending := false, ejectSubject := none }) l).reevaluate)) ∧
     ∀ w, s.gate.grant = some .returnStation → s.gate.station = some w → exec .ovenEntryEvent s =
       .next (State.reevaluate { entered w.serial with gate := { (entered w.serial).gate with station := none } })) ∧
  ∀ (s : State) (t : Time), s.gate.transferTimer = some t → reached s.clock t = true →
    let u := { s with gate := { s.gate with grant := none, transferTimer := none } }
    (∀ l b, s.gate.grant = some (.lane l) → s.board l = some b → exec .transferTimerExpiry s =
      .next (((u.addReason b.serial .transferFault).laneHold l b.serial).reevaluate)) ∧
    ∀ w b, s.gate.grant = some .returnStation → s.gate.station = some w →
      (s.addReason w.serial .transferFault).record? w.serial = some b →
      let v := (u.addReason w.serial .transferFault).ovenHold b .returnStation
      exec .transferTimerExpiry s = .next (State.reevaluate { v with gate := { v.gate with station := none } })

/-! ### Cure tracking -/

/-- The Oven Sensor Line: a missing stop bit abandons the record; waiting, only the marker 0x3C begins one; each further
byte restarts the 2 ms gap timer; the fifth completes the record, which updates its zone when its check byte, its zone and
its temperature hold, and is discarded otherwise; the gap timer's expiry abandons the record. A zone whose age has reached
the limit becomes stale, raising ZONE_STALE; a zone already stale, beyond the count or younger does not. -/
def Obligations.SensorRecordsUpdateZonesThatGoStale : Prop :=
  ∀ s : State,
    let waiting := { s with oven := { s.oven with sensorBytes := [], sensorGap := none } }
    let count := match s.oven.layout with
      | some y => y.lengths.length
      | none => 0
    (∀ b, exec (.ovenSensorByteReceived b false) s = .next waiting) ∧
    (∀ b, s.oven.sensorBytes = [] → b ≠ 0x3C#8 → exec (.ovenSensorByteReceived b true) s = .next s) ∧
    (∀ b, s.oven.sensorBytes.length < 4 → s.oven.sensorBytes ≠ [] ∨ b = 0x3C#8 →
      exec (.ovenSensorByteReceived b true) s = .next { s with oven := { s.oven with
        sensorBytes := s.oven.sensorBytes ++ [b], sensorGap := some (s.clock + 2#32) } }) ∧
    (∀ (zone high low check : Byte) (z : Fin 6), s.oven.sensorBytes = [0x3C#8, zone, high, low] → zone.toNat = z.val →
      let temp := (high ++ low).toInt
      exec (.ovenSensorRecord check) s = .next (
        if check = zone ^^^ high ^^^ low ∧ z.val < count ∧ -500 ≤ temp ∧ temp ≤ 4000 then
          { waiting with oven := { waiting.oven with zones := s.oven.zones.set z (⟨some temp, some s.clock, false, 0⟩ : Zone) } }
        else waiting)) ∧
    (∀ (zone high low check : Byte), s.oven.sensorBytes = [0x3C#8, zone, high, low] → 6 ≤ zone.toNat →
      exec (.ovenSensorRecord check) s = .next waiting) ∧
    (∀ t, s.oven.sensorGap = some t → reached s.clock t = true → exec .ovenSensorGapExpiry s = .next waiting) ∧
    ∀ z : Fin 6, exec (.zoneStaleExpiry z) s = .next (
      if z.val < count ∧ s.oven.zones[z].stale = false ∧ s.settings.zoneStaleLimit ≤ s.oven.zones[z].age then
        raise .zoneStale none 0 z.val { s with oven := { s.oven with
          zones := s.oven.zones.set z { s.oven.zones[z] with stale := true } } }
      else s)

/-- An encoder pulse adds the pitch to every position in the oven, saturating, and re-evaluates the gate when it takes the
tail to the entry spacing. A dose tick restarts its timer 1 000 ms after its expiry and doses every board in the oven once,
with the temperature of the zone its position lies in, if that zone holds one and is not stale. -/
def Obligations.EncoderMovesAndTicksDoseTheBoards : Prop :=
  ∀ s : State,
    (s.oven.layout = none → exec .encoderPulse s = .next s) ∧
    (∀ y, s.oven.layout = some y →
      let u := { s with oven := { s.oven with
        queue := s.oven.queue.map fun e => { e with position := min (2 ^ 32 - 1) (e.position + y.pitch) } } }
      let spacing := s.settings.entrySpacing * 1000
      exec .encoderPulse s = .next (
        if ∃ e ∈ s.oven.queue.getLast?, e.position < spacing ∧ spacing ≤ min (2 ^ 32 - 1) (e.position + y.pitch) then
          u.reevaluate
        else u)) ∧
    (s.oven.queue = [] → reached s.clock s.oven.doseNext = true →
      exec .doseTick s = .next { s with oven := { s.oven with doseNext := s.oven.doseNext + 1000#32 } }) ∧
    ∀ y, s.oven.layout = some y → 1 ≤ y.lengths.length → y.lengths.length ≤ 6 → reached s.clock s.oven.doseNext = true →
      (s.oven.queue.map (·.serial)).Nodup →
      let within (i : Fin 6) (x : Nat) : Prop := i.val < y.lengths.length ∧ (y.lengths.take i.val).sum * 1000 ≤ x ∧
        (x < (y.lengths.take (i.val + 1)).sum * 1000 ∨ i.val + 1 = y.lengths.length)
      ∃ t, exec .doseTick s = .next t ∧
        t = { s with oven := { s.oven with doseNext := s.oven.doseNext + 1000#32 }, records := t.records } ∧
        ∀ j : Nat, t.records[j]? = s.records[j]?.map fun b => match s.oven.queue.find? fun e => e.serial = b.serial with
          | none => b
          | some e => doseBoard (s.store.slots[b.slot]).cureD
            ((List.finRange 6).findSome? fun i => if within i e.position then
              (if s.oven.zones[i].stale then none else s.oven.zones[i].temp) else none) b

/-- One tick of one board. In a zone that is not usable TEMP_STALE is added and the dose kept. In a usable one at d tenths
above the reference the dose rises by ⌊M × 2ⁿ⌋, saturating: nothing below -400, d taken as 300 above it, n = ⌊d ÷ 100⌋ and M
the factor for the whole degrees left; OVERHEAT is added when d exceeds the margin. The cured flag goes on at the target and
stays on. -/
def Obligations.DoseIncrementFollowsTheFactorTable : Prop :=
  ∀ (c : Cure) (b : BoardRecord),
    doseBoard c none b = { b with
      reasons := b.reasons.set Reason.tempStale.idx true, cured := b.cured || decide (c.targetMinutes * 60000 ≤ b.dose) } ∧
    ∀ temp : ℤ,
      let d := temp - c.refTemp
      let d' := min d 300
      let n := d' / 100
      let k := ((d' - 100 * n) / 10).toNat
      let factors : List Nat := [1000, 1072, 1149, 1231, 1320, 1414, 1516, 1625, 1741, 1866]
      let increment := if d < -400 then 0 else ⌊(factors.getD k 0 : ℚ) * 2 ^ n⌋₊
      let dose := min (2 ^ 32 - 1) (b.dose + increment)
      (-400 ≤ d → k ≤ 9 ∧ 62 ≤ increment ∧ increment ≤ 8000) ∧ (d < 300 → increment ≤ 7464) ∧
      doseBoard c (some temp) b = { b with
        reasons := if c.overheatMargin < d then b.reasons.set Reason.overheat.idx true else b.reasons
        dose := dose
        cured := b.cured || decide (c.targetMinutes * 60000 ≤ dose) }

/-- The exit sensor: an empty queue, or a head below the exit threshold, is a stray of source 5 and changes nothing else;
otherwise the head leaves, UNDERCURE and OVERCURE are judged from its dose, a board with no reason is finished and removed,
any other asks for an oven-class hold at the exit rack, and the gate re-evaluates. -/
def Obligations.ExitEventJudgesTheHead : Prop :=
  ∀ s : State,
    let total := match s.oven.layout with
      | some y => y.lengths.sum
      | none => 0
    let threshold := (total - s.settings.exitWindow) * 1000
    (s.oven.queue = [] → exec .ovenExitEvent s = .next (raise .strayBoard none 0 5 s)) ∧
    ∀ e rest, s.oven.queue = e :: rest →
      (e.position < threshold → exec .ovenExitEvent s = .next (raise .strayBoard none 0 5 s)) ∧
      ∀ b, threshold ≤ e.position → s.record? e.serial = some b →
        let c := (s.store.slots[b.slot]).cureD
        let judged := { b with reasons := Vector.ofFn fun i => b.reasons[i] ||
          (decide (i = Reason.undercure.idx) && decide (b.dose < c.targetMinutes * 60000)) ||
          (decide (i = Reason.overcure.idx) && decide (600 * c.targetMinutes * c.overCure < b.dose)) }
        let u := { s with oven := { s.oven with queue := rest } }
        exec .ovenExitEvent s = .next (
          if ∀ i : Fin 20, judged.reasons[i] = false then
            State.reevaluate (raise .boardFinished (some b.lane) b.serial b.rework
              { u with records := s.records.filter fun (r : BoardRecord) => decide (r.serial ≠ b.serial) })
          else (State.ovenHold { u with records := s.records.map fun (r : BoardRecord) =>
            if r.serial = b.serial then judged else r } judged .exitRack).reevaluate)

/-! ### Holds and dispositions -/

/-- DISPOSE RELEASE and SCRAP on the Bench Port, and on the Line Port with remote disposition on: the conditions in their
order, each with its status; accepted, the hold entry and the record are removed, the event is raised with the rework count,
and the BLOCKED lanes retry. SCRAP is allowed whatever the reasons. -/
def Obligations.ReleaseAndScrapRemoveTheBoard : Prop :=
  ∀ (s : State) (p : Port) (tag : Byte) (rest : List Frame) (n : Nat) (scrap : Bool), 1 ≤ n → n < 2 ^ 32 →
    p = .bench ∨ s.settings.remoteDisposition = true →
    let payload := bytes32 n ++ [flagByte scrap]
    s.Ready p ⟨0x60#8, tag, payload⟩ rest →
    let u := s.taken p rest
    let answer (v : State) (fields : List Byte) : Host.Outcome State Fault Refusal :=
      .next (v.answered p (s.txLength p) ⟨false, ⟨0xE0#8, tag, fields⟩⟩)
    let escalated := (s.holds.find? fun e => decide (e.serial = n)).any fun e => decide (e.state = .escalated)
    exec (if scrap then .disposeScrap p tag payload else .disposeRelease p tag payload) s =
      match s.records.find? fun b => decide (b.serial = n) with
      | none => answer u [5#8]
      | some b =>
        if b.stage ≠ .held then answer u [9#8]
        else if scrap = false ∧
            (escalated = true ∨ ∃ i : Fin 20, b.reasons[i] = true ∧ i.val + 1 ∉ [4, 5, 6, 7, 8, 9, 10, 11, 12, 16, 18]) then
          answer u [13#8]
        else answer ((raise (if scrap then .boardScrapped else .boardReleased) (some b.lane) n b.rework { u with
            holds := u.holds.filter fun e => e.serial ≠ n
            records := u.records.filter fun r => r.serial ≠ n }).retryBlocked) [0#8, toByte b.rework]

/-- DISPOSE RESPRAY and RECURE: the common conditions, each action's own, and then the board's move: with its reasons
cleared and its rework count up by 1 it joins the tail of the named lane's announce queue over the given areas, or goes to
the return station, where the gate reckons its times and may grant it at once. The BLOCKED lanes retry last. The times of a
RECURE from an old spray end time (the Line Clock time, log 25) and the re-evaluation only for an eligible entry (log 19)
are the model's readings. -/
def Obligations.ResprayAndRecureSendTheBoardBack : Prop :=
  ∀ (s : State) (p : Port) (tag : Byte) (rest : List Frame) (n : Nat), 1 ≤ n → n < 2 ^ 32 →
    p = .bench ∨ s.settings.remoteDisposition = true →
    let u := s.taken p rest
    let answer (v : State) (fields : List Byte) : Host.Outcome State Fault Refusal :=
      .next (v.answered p (s.txLength p) ⟨false, ⟨0xE0#8, tag, fields⟩⟩)
    let barred (allowed : List Nat) (b : BoardRecord) : Prop :=
      (s.holds.find? fun e => decide (e.serial = n)).any (fun e => decide (e.state = .escalated)) = true ∨
        ∃ i : Fin 20, b.reasons[i] = true ∧ i.val + 1 ∉ allowed
    let common (allowed : List Nat) (go : BoardRecord → Host.Outcome State Fault Refusal) :
        Host.Outcome State Fault Refusal :=
      match s.records.find? fun b => decide (b.serial = n) with
      | none => answer u [5#8]
      | some b =>
        if b.stage ≠ .held then answer u [9#8]
        else if barred allowed b then answer u [13#8]
        else if 2 ≤ b.rework then answer u [11#8]
        else go b
    let back (b : BoardRecord) (stage : Stage) (location : Location) : BoardRecord := { b with
      rework := b.rework + 1, stage := stage, location := location, reasons := Vector.replicate 20 false
      filmLow := Vector.replicate 12 false, filmHigh := Vector.replicate 12 false
      maskCritical := Vector.replicate 16 false }
    (∀ (l : LaneId) (areas : List (Fin 12)), areas.length ≤ 12 →
      let payload := bytes32 n ++ [2#8, toByte (laneNumber l), toByte areas.length] ++ areas.map fun a => toByte a.val
      s.Ready p ⟨0x60#8, tag, payload⟩ rest →
      exec (.disposeRespray p tag payload) s = common [1, 2, 3, 4, 5, 6, 7, 8, 9, 10, 11, 13, 14, 15, 17, 19] fun b =>
        let c := (s.lane l).ctl
        if ∃ a ∈ areas, (s.store.slots[b.slot]).areasD.length ≤ a.val then answer u [4#8]
        else if c.state = .off then answer u [9#8]
        else if c.serviceDue then answer u [12#8]
        else if 4 ≤ c.queue.length then answer u [7#8]
        else answer (State.retryBlocked ({ u with
            holds := u.holds.filter fun e => e.serial ≠ n
            records := u.records.map fun (r : BoardRecord) => if r.serial = n then
              { back r .reworkPending .announceQueue with lane := l, passAreas := Vector.ofFn fun a => decide (a ∈ areas) }
              else r }.modCtl l fun c => { c with queue := c.queue ++ [(⟨n, true⟩ : QueueEntry)] })) [0#8, toByte (b.rework + 1)]) ∧
    (s.Ready p ⟨0x60#8, tag, bytes32 n ++ [3#8]⟩ rest →
      exec (.disposeRecure p tag (bytes32 n ++ [3#8])) s = common [13, 14, 15, 17] fun b =>
        if s.gate.station ≠ none then answer u [8#8]
        else
          let t := (s.store.slots[b.slot]).timingD
          let at_ (seconds : Nat) : Time := match b.sprayEnd with
            | none => s.clock
            | some e => if e.old then s.clock else e.time + BitVec.ofNat 32 (seconds * 1000)
          let eligible := reached s.clock (at_ t.flashOff)
          let w : Waiting :=
            { serial := n, flashReady := at_ t.flashOff, eligible := eligible, flashTimer := true
              deadline := if b.sprayEnd ≠ none ∧ b.coated = true ∧ b.cured = false then some (at_ t.wetHold) else none }
          let v := { u with
            holds := u.holds.filter fun e => e.serial ≠ n
            records := u.records.map fun (r : BoardRecord) => if r.serial = n then back r .flashing .returnStation else r
            gate := { u.gate with station := some w } }
          answer (State.retryBlocked (
              if s.gate.presence = true ∧ s.gate.grant ≠ some .returnStation ∧ eligible = true then v.reevaluate else v))
            [0#8, toByte (b.rework + 1)])

/-- LIST_HOLDS on either port changes nothing and replies, with LEN 22 + 11 × k, the k holds, both lanes' idle drip counts,
their overrun, late-reading and unmapped-reading counts, and each hold, oldest first, with its time to escalation. -/
def Obligations.ListHoldsRepliesTheTable : Prop :=
  ∀ (s : State) (p : Port) (tag : Byte) (rest : List Frame), s.Ready p ⟨0x07#8, tag, []⟩ rest →
    let counts (x : Lane) : List Byte :=
      toByte x.station.startOverruns :: toByte x.station.endOverruns :: toByte x.station.inspectOverruns ::
        toByte x.station.boardOverruns :: (bytes16 x.checker.lateCount ++ bytes16 x.checker.unmappedCount)
    let hold (e : HoldEntry) : List Byte := bytes32 e.serial ++
      [match e.location with
        | .lane .lane0 => 0#8
        | .lane .lane1 => 1#8
        | .exitRack => 2#8
        | .returnStation => 3#8, if e.state = .escalated then 1#8 else 0#8, flagByte e.wet] ++
      bytes32 (match e.deadline with
        | some t => if (t - s.clock).toNat < 2 ^ 31 then (t - s.clock).toNat else 0
        | none => 0)
    let fields := 0#8 :: toByte s.holds.length :: (bytes16 s.lane0.meter.idleDrip ++ bytes16 s.lane1.meter.idleDrip ++
      counts s.lane0 ++ counts s.lane1 ++ s.holds.flatMap hold)
    fields.length = 22 + 11 * s.holds.length ∧
    exec (.listHolds p tag []) s = .next ((s.taken p rest).answered p (s.txLength p) ⟨false, ⟨0x87#8, tag, fields⟩⟩)

/-- Times reached. At 86 400 000 ms from the spray end a spray end time that is not old becomes old, and sooner nothing
happens. At its deadline a PENDING hold escalates: WET_EXPIRED is added to its board's reasons, the entry keeps its place
and becomes ESCALATED without a deadline, and HOLD_ESCALATED is raised with its location. -/
def Obligations.OldSprayEndsAndHoldEscalations : Prop :=
  (∀ (s : State) (n : Serial) (b : BoardRecord) (e : SprayEnd),
     (s.records.map (·.serial)).Nodup → b ∈ s.records → b.serial = n → b.sprayEnd = some e → e.old = false →
     exec (.sprayEndTimeOld n) s = .next (
       if 86400000 ≤ (s.clock - e.time).toNat then
         { s with records := s.records.map fun r => if r.serial = n then { r with sprayEnd := some ⟨e.time, true⟩ } else r }
       else s)) ∧
  ∀ (s : State) (e : HoldEntry) (b : BoardRecord) (t : Time), s.hold? e.serial = some e → s.record? e.serial = some b →
    e.state = .pending → e.deadline = some t → reached s.clock t = true →
    exec (.escalationDeadlineExpiry e.serial) s = .next (raise .holdEscalated (some b.lane) e.serial e.location.code { s with
      holds := s.holds.map fun x => if x.serial = e.serial then { x with state := .escalated, deadline := none } else x
      records := s.records.map fun (r : BoardRecord) =>
        if r.serial = e.serial then { r with reasons := r.reasons.set Reason.wetExpired.idx true } else r })

/-! ### Invariants -/

/-- Every step keeps the ports and the Recipe Store sound and every queue, count and setting within its bounds: the
receive and transmit queues, the event counts, the sections, the maps and the alias table, the lanes' queues, settings and
counts, at most 32 records of distinct serials, 16 holds and 12 boards in the oven, whose positions are non-increasing from
head to tail. -/
def Obligations.QueuesAndCountsStayWithinBounds : Prop :=
  ∀ s t : State, step s = .next t →
    ((∀ p, (s.port p).Sound) → ∀ p, (t.port p).Sound) ∧
    (s.store.Sound → t.store.Sound) ∧
    ((∀ l, (s.lane l).Within) → s.store.Sound → s.Within → (∀ l, (t.lane l).Within) ∧ t.Within)

/-- Every step keeps every board in its place: serials distinct; each location's boards those of the structure that keeps
it; every lane's timers, sequencer, slots, gate entry and grant in step with its lane state; every path numbered 1, 2, 3 and
on. -/
def Obligations.BoardsStayInTheirPlaces : Prop :=
  ∀ s t : State, s.Placed → step s = .next t → t.Placed

/-- The state after reset is sound, within its bounds, free of references to a clear, runs no suppressed segment, and has
every board in its place. -/
def Obligations.ResetStateIsSound : Prop :=
  (∀ p, (State.reset.port p).Sound) ∧ State.reset.store.Sound ∧ (∀ l, (State.reset.lane l).Within) ∧ State.reset.Within ∧
    State.reset.ClearingFindsNoReference ∧ (∀ l, State.reset.RunsUnsuppressed l) ∧ State.reset.Placed

/-- While a record exists its serial and slot stay, its dose and area tallies never fall, its rework count never falls, and
its coated and cured flags stay on once on, whatever the step. -/
def Obligations.DoseAndTalliesNeverFall : Prop :=
  ∀ s t : State, s.Within → step s = .next t → ∀ b ∈ s.records, ∀ c ∈ t.records, c.serial = b.serial →
    c.slot = b.slot ∧ b.dose ≤ c.dose ∧ (∀ a : Fin 12, b.tallies[a] ≤ c.tallies[a]) ∧ b.rework ≤ c.rework ∧
      (b.coated = true → c.coated = true) ∧ (b.cured = true → c.cured = true)
end

