-- ==== Sys2Proof/Laws/State.lean ====
section
/-!
SUPPORT. The small lemmas of the state's updates: for every update, one lemma per field it leaves alone and one for
what it changes, so that no later proof unfolds a record update.
-/

namespace Sys2Proof.Machine

open Sys2Proof

variable (s : State)

/-! ### Ports -/

@[simp] theorem modPort_clock (p : Port) (f : PortState → PortState) : (s.modPort p f).clock = s.clock := by cases p <;> rfl
@[simp] theorem modPort_settings (p : Port) (f : PortState → PortState) : (s.modPort p f).settings = s.settings := by cases p <;> rfl
@[simp] theorem modPort_store (p : Port) (f : PortState → PortState) : (s.modPort p f).store = s.store := by cases p <;> rfl
@[simp] theorem modPort_records (p : Port) (f : PortState → PortState) : (s.modPort p f).records = s.records := by cases p <;> rfl
@[simp] theorem modPort_lane0 (p : Port) (f : PortState → PortState) : (s.modPort p f).lane0 = s.lane0 := by cases p <;> rfl
@[simp] theorem modPort_lane1 (p : Port) (f : PortState → PortState) : (s.modPort p f).lane1 = s.lane1 := by cases p <;> rfl
@[simp] theorem modPort_gate (p : Port) (f : PortState → PortState) : (s.modPort p f).gate = s.gate := by cases p <;> rfl
@[simp] theorem modPort_oven (p : Port) (f : PortState → PortState) : (s.modPort p f).oven = s.oven := by cases p <;> rfl
@[simp] theorem modPort_holds (p : Port) (f : PortState → PortState) : (s.modPort p f).holds = s.holds := by cases p <;> rfl
@[simp] theorem modPort_freeCount (p : Port) (f : PortState → PortState) : (s.modPort p f).freeCount = s.freeCount := by cases p <;> rfl
@[simp] theorem modPort_pending (p : Port) (f : PortState → PortState) : (s.modPort p f).pending = s.pending := by cases p <;> rfl

@[simp] theorem modPort_port (p : Port) (f : PortState → PortState) : (s.modPort p f).port p = f (s.port p) := by
  cases p <;> rfl

theorem modPort_port_ne (p q : Port) (f : PortState → PortState) (h : q ≠ p) : (s.modPort p f).port q = s.port q := by
  cases p <;> cases q <;> first | rfl | exact absurd rfl h

@[simp] theorem modPort_lane (p : Port) (f : PortState → PortState) (l : LaneId) :
    (s.modPort p f).lane l = s.lane l := by cases p <;> rfl

@[simp] theorem modPort_modPort (p : Port) (f g : PortState → PortState) :
    (s.modPort p f).modPort p g = s.modPort p fun ps => g (f ps) := by cases p <;> rfl

/-! ### Lanes -/

@[simp] theorem modLane_clock (l : LaneId) (f : Lane → Lane) : (s.modLane l f).clock = s.clock := by cases l <;> rfl
@[simp] theorem modLane_line (l : LaneId) (f : Lane → Lane) : (s.modLane l f).line = s.line := by cases l <;> rfl
@[simp] theorem modLane_bench (l : LaneId) (f : Lane → Lane) : (s.modLane l f).bench = s.bench := by cases l <;> rfl
@[simp] theorem modLane_settings (l : LaneId) (f : Lane → Lane) : (s.modLane l f).settings = s.settings := by cases l <;> rfl
@[simp] theorem modLane_store (l : LaneId) (f : Lane → Lane) : (s.modLane l f).store = s.store := by cases l <;> rfl
@[simp] theorem modLane_records (l : LaneId) (f : Lane → Lane) : (s.modLane l f).records = s.records := by cases l <;> rfl
@[simp] theorem modLane_gate (l : LaneId) (f : Lane → Lane) : (s.modLane l f).gate = s.gate := by cases l <;> rfl
@[simp] theorem modLane_oven (l : LaneId) (f : Lane → Lane) : (s.modLane l f).oven = s.oven := by cases l <;> rfl
@[simp] theorem modLane_holds (l : LaneId) (f : Lane → Lane) : (s.modLane l f).holds = s.holds := by cases l <;> rfl
@[simp] theorem modLane_freeCount (l : LaneId) (f : Lane → Lane) : (s.modLane l f).freeCount = s.freeCount := by cases l <;> rfl
@[simp] theorem modLane_pending (l : LaneId) (f : Lane → Lane) : (s.modLane l f).pending = s.pending := by cases l <;> rfl

@[simp] theorem modCtl_clock (l : LaneId) (f : LaneCtl → LaneCtl) : (s.modCtl l f).clock = s.clock := by cases l <;> rfl
@[simp] theorem modCtl_line (l : LaneId) (f : LaneCtl → LaneCtl) : (s.modCtl l f).line = s.line := by cases l <;> rfl
@[simp] theorem modCtl_bench (l : LaneId) (f : LaneCtl → LaneCtl) : (s.modCtl l f).bench = s.bench := by cases l <;> rfl
@[simp] theorem modCtl_settings (l : LaneId) (f : LaneCtl → LaneCtl) : (s.modCtl l f).settings = s.settings := by cases l <;> rfl
@[simp] theorem modCtl_store (l : LaneId) (f : LaneCtl → LaneCtl) : (s.modCtl l f).store = s.store := by cases l <;> rfl
@[simp] theorem modCtl_records (l : LaneId) (f : LaneCtl → LaneCtl) : (s.modCtl l f).records = s.records := by cases l <;> rfl
@[simp] theorem modCtl_gate (l : LaneId) (f : LaneCtl → LaneCtl) : (s.modCtl l f).gate = s.gate := by cases l <;> rfl
@[simp] theorem modCtl_oven (l : LaneId) (f : LaneCtl → LaneCtl) : (s.modCtl l f).oven = s.oven := by cases l <;> rfl
@[simp] theorem modCtl_holds (l : LaneId) (f : LaneCtl → LaneCtl) : (s.modCtl l f).holds = s.holds := by cases l <;> rfl
@[simp] theorem modCtl_freeCount (l : LaneId) (f : LaneCtl → LaneCtl) : (s.modCtl l f).freeCount = s.freeCount := by cases l <;> rfl
@[simp] theorem modCtl_pending (l : LaneId) (f : LaneCtl → LaneCtl) : (s.modCtl l f).pending = s.pending := by cases l <;> rfl

@[simp] theorem modStation_clock (l : LaneId) (f : StationPort → StationPort) : (s.modStation l f).clock = s.clock := by cases l <;> rfl
@[simp] theorem modStation_line (l : LaneId) (f : StationPort → StationPort) : (s.modStation l f).line = s.line := by cases l <;> rfl
@[simp] theorem modStation_bench (l : LaneId) (f : StationPort → StationPort) : (s.modStation l f).bench = s.bench := by cases l <;> rfl
@[simp] theorem modStation_settings (l : LaneId) (f : StationPort → StationPort) : (s.modStation l f).settings = s.settings := by cases l <;> rfl
@[simp] theorem modStation_store (l : LaneId) (f : StationPort → StationPort) : (s.modStation l f).store = s.store := by cases l <;> rfl
@[simp] theorem modStation_records (l : LaneId) (f : StationPort → StationPort) : (s.modStation l f).records = s.records := by cases l <;> rfl
@[simp] theorem modStation_gate (l : LaneId) (f : StationPort → StationPort) : (s.modStation l f).gate = s.gate := by cases l <;> rfl
@[simp] theorem modStation_oven (l : LaneId) (f : StationPort → StationPort) : (s.modStation l f).oven = s.oven := by cases l <;> rfl
@[simp] theorem modStation_holds (l : LaneId) (f : StationPort → StationPort) : (s.modStation l f).holds = s.holds := by cases l <;> rfl
@[simp] theorem modStation_freeCount (l : LaneId) (f : StationPort → StationPort) : (s.modStation l f).freeCount = s.freeCount := by cases l <;> rfl
@[simp] theorem modStation_pending (l : LaneId) (f : StationPort → StationPort) : (s.modStation l f).pending = s.pending := by cases l <;> rfl

@[simp] theorem modChecker_clock (l : LaneId) (f : MaskChecker → MaskChecker) : (s.modChecker l f).clock = s.clock := by cases l <;> rfl
@[simp] theorem modChecker_line (l : LaneId) (f : MaskChecker → MaskChecker) : (s.modChecker l f).line = s.line := by cases l <;> rfl
@[simp] theorem modChecker_bench (l : LaneId) (f : MaskChecker → MaskChecker) : (s.modChecker l f).bench = s.bench := by cases l <;> rfl
@[simp] theorem modChecker_settings (l : LaneId) (f : MaskChecker → MaskChecker) : (s.modChecker l f).settings = s.settings := by cases l <;> rfl
@[simp] theorem modChecker_store (l : LaneId) (f : MaskChecker → MaskChecker) : (s.modChecker l f).store = s.store := by cases l <;> rfl
@[simp] theorem modChecker_records (l : LaneId) (f : MaskChecker → MaskChecker) : (s.modChecker l f).records = s.records := by cases l <;> rfl
@[simp] theorem modChecker_gate (l : LaneId) (f : MaskChecker → MaskChecker) : (s.modChecker l f).gate = s.gate := by cases l <;> rfl
@[simp] theorem modChecker_oven (l : LaneId) (f : MaskChecker → MaskChecker) : (s.modChecker l f).oven = s.oven := by cases l <;> rfl
@[simp] theorem modChecker_holds (l : LaneId) (f : MaskChecker → MaskChecker) : (s.modChecker l f).holds = s.holds := by cases l <;> rfl
@[simp] theorem modChecker_freeCount (l : LaneId) (f : MaskChecker → MaskChecker) : (s.modChecker l f).freeCount = s.freeCount := by cases l <;> rfl
@[simp] theorem modChecker_pending (l : LaneId) (f : MaskChecker → MaskChecker) : (s.modChecker l f).pending = s.pending := by cases l <;> rfl

@[simp] theorem modPath_clock (l : LaneId) (f : PathExec → PathExec) : (s.modPath l f).clock = s.clock := by cases l <;> rfl
@[simp] theorem modPath_line (l : LaneId) (f : PathExec → PathExec) : (s.modPath l f).line = s.line := by cases l <;> rfl
@[simp] theorem modPath_bench (l : LaneId) (f : PathExec → PathExec) : (s.modPath l f).bench = s.bench := by cases l <;> rfl
@[simp] theorem modPath_settings (l : LaneId) (f : PathExec → PathExec) : (s.modPath l f).settings = s.settings := by cases l <;> rfl
@[simp] theorem modPath_store (l : LaneId) (f : PathExec → PathExec) : (s.modPath l f).store = s.store := by cases l <;> rfl
@[simp] theorem modPath_records (l : LaneId) (f : PathExec → PathExec) : (s.modPath l f).records = s.records := by cases l <;> rfl
@[simp] theorem modPath_gate (l : LaneId) (f : PathExec → PathExec) : (s.modPath l f).gate = s.gate := by cases l <;> rfl
@[simp] theorem modPath_oven (l : LaneId) (f : PathExec → PathExec) : (s.modPath l f).oven = s.oven := by cases l <;> rfl
@[simp] theorem modPath_holds (l : LaneId) (f : PathExec → PathExec) : (s.modPath l f).holds = s.holds := by cases l <;> rfl
@[simp] theorem modPath_freeCount (l : LaneId) (f : PathExec → PathExec) : (s.modPath l f).freeCount = s.freeCount := by cases l <;> rfl
@[simp] theorem modPath_pending (l : LaneId) (f : PathExec → PathExec) : (s.modPath l f).pending = s.pending := by cases l <;> rfl

@[simp] theorem modMeter_clock (l : LaneId) (f : FlowMeter → FlowMeter) : (s.modMeter l f).clock = s.clock := by cases l <;> rfl
@[simp] theorem modMeter_line (l : LaneId) (f : FlowMeter → FlowMeter) : (s.modMeter l f).line = s.line := by cases l <;> rfl
@[simp] theorem modMeter_bench (l : LaneId) (f : FlowMeter → FlowMeter) : (s.modMeter l f).bench = s.bench := by cases l <;> rfl
@[simp] theorem modMeter_settings (l : LaneId) (f : FlowMeter → FlowMeter) : (s.modMeter l f).settings = s.settings := by cases l <;> rfl
@[simp] theorem modMeter_store (l : LaneId) (f : FlowMeter → FlowMeter) : (s.modMeter l f).store = s.store := by cases l <;> rfl
@[simp] theorem modMeter_records (l : LaneId) (f : FlowMeter → FlowMeter) : (s.modMeter l f).records = s.records := by cases l <;> rfl
@[simp] theorem modMeter_gate (l : LaneId) (f : FlowMeter → FlowMeter) : (s.modMeter l f).gate = s.gate := by cases l <;> rfl
@[simp] theorem modMeter_oven (l : LaneId) (f : FlowMeter → FlowMeter) : (s.modMeter l f).oven = s.oven := by cases l <;> rfl
@[simp] theorem modMeter_holds (l : LaneId) (f : FlowMeter → FlowMeter) : (s.modMeter l f).holds = s.holds := by cases l <;> rfl
@[simp] theorem modMeter_freeCount (l : LaneId) (f : FlowMeter → FlowMeter) : (s.modMeter l f).freeCount = s.freeCount := by cases l <;> rfl
@[simp] theorem modMeter_pending (l : LaneId) (f : FlowMeter → FlowMeter) : (s.modMeter l f).pending = s.pending := by cases l <;> rfl

@[simp] theorem setLaneState_clock (l : LaneId) (x : LaneState) : (s.setLaneState l x).clock = s.clock := by cases l <;> rfl
@[simp] theorem setLaneState_line (l : LaneId) (x : LaneState) : (s.setLaneState l x).line = s.line := by cases l <;> rfl
@[simp] theorem setLaneState_bench (l : LaneId) (x : LaneState) : (s.setLaneState l x).bench = s.bench := by cases l <;> rfl
@[simp] theorem setLaneState_settings (l : LaneId) (x : LaneState) : (s.setLaneState l x).settings = s.settings := by cases l <;> rfl
@[simp] theorem setLaneState_store (l : LaneId) (x : LaneState) : (s.setLaneState l x).store = s.store := by cases l <;> rfl
@[simp] theorem setLaneState_records (l : LaneId) (x : LaneState) : (s.setLaneState l x).records = s.records := by cases l <;> rfl
@[simp] theorem setLaneState_gate (l : LaneId) (x : LaneState) : (s.setLaneState l x).gate = s.gate := by cases l <;> rfl
@[simp] theorem setLaneState_oven (l : LaneId) (x : LaneState) : (s.setLaneState l x).oven = s.oven := by cases l <;> rfl
@[simp] theorem setLaneState_holds (l : LaneId) (x : LaneState) : (s.setLaneState l x).holds = s.holds := by cases l <;> rfl
@[simp] theorem setLaneState_freeCount (l : LaneId) (x : LaneState) : (s.setLaneState l x).freeCount = s.freeCount := by cases l <;> rfl
@[simp] theorem setLaneState_pending (l : LaneId) (x : LaneState) : (s.setLaneState l x).pending = s.pending := by cases l <;> rfl

@[simp] theorem modLane_lane (l : LaneId) (f : Lane → Lane) : (s.modLane l f).lane l = f (s.lane l) := by
  cases l <;> rfl

theorem modLane_lane_ne (l m : LaneId) (f : Lane → Lane) (h : m ≠ l) : (s.modLane l f).lane m = s.lane m := by
  cases l <;> cases m <;> first | rfl | exact absurd rfl h

@[simp] theorem modCtl_ctl (l : LaneId) (f : LaneCtl → LaneCtl) : ((s.modCtl l f).lane l).ctl = f (s.lane l).ctl := by
  cases l <;> rfl

@[simp] theorem modCtl_station (l : LaneId) (f : LaneCtl → LaneCtl) (m : LaneId) : ((s.modCtl l f).lane m).station = (s.lane m).station := by
  cases l <;> cases m <;> rfl

@[simp] theorem modCtl_checker (l : LaneId) (f : LaneCtl → LaneCtl) (m : LaneId) : ((s.modCtl l f).lane m).checker = (s.lane m).checker := by
  cases l <;> cases m <;> rfl

@[simp] theorem modCtl_path (l : LaneId) (f : LaneCtl → LaneCtl) (m : LaneId) : ((s.modCtl l f).lane m).path = (s.lane m).path := by
  cases l <;> cases m <;> rfl

@[simp] theorem modCtl_meter (l : LaneId) (f : LaneCtl → LaneCtl) (m : LaneId) : ((s.modCtl l f).lane m).meter = (s.lane m).meter := by
  cases l <;> cases m <;> rfl

theorem modCtl_lane_ne (l m : LaneId) (f : LaneCtl → LaneCtl) (h : m ≠ l) : (s.modCtl l f).lane m = s.lane m := by
  cases l <;> cases m <;> first | rfl | exact absurd rfl h

@[simp] theorem modCtl_port (l : LaneId) (f : LaneCtl → LaneCtl) (p : Port) : (s.modCtl l f).port p = s.port p := by
  cases l <;> cases p <;> rfl

@[simp] theorem modStation_station (l : LaneId) (f : StationPort → StationPort) : ((s.modStation l f).lane l).station = f (s.lane l).station := by
  cases l <;> rfl

@[simp] theorem modStation_ctl (l : LaneId) (f : StationPort → StationPort) (m : LaneId) : ((s.modStation l f).lane m).ctl = (s.lane m).ctl := by
  cases l <;> cases m <;> rfl

@[simp] theorem modStation_checker (l : LaneId) (f : StationPort → StationPort) (m : LaneId) : ((s.modStation l f).lane m).checker = (s.lane m).checker := by
  cases l <;> cases m <;> rfl

@[simp] theorem modStation_path (l : LaneId) (f : StationPort → StationPort) (m : LaneId) : ((s.modStation l f).lane m).path = (s.lane m).path := by
  cases l <;> cases m <;> rfl

@[simp] theorem modStation_meter (l : LaneId) (f : StationPort → StationPort) (m : LaneId) : ((s.modStation l f).lane m).meter = (s.lane m).meter := by
  cases l <;> cases m <;> rfl

theorem modStation_lane_ne (l m : LaneId) (f : StationPort → StationPort) (h : m ≠ l) : (s.modStation l f).lane m = s.lane m := by
  cases l <;> cases m <;> first | rfl | exact absurd rfl h

@[simp] theorem modStation_port (l : LaneId) (f : StationPort → StationPort) (p : Port) : (s.modStation l f).port p = s.port p := by
  cases l <;> cases p <;> rfl

@[simp] theorem modChecker_checker (l : LaneId) (f : MaskChecker → MaskChecker) : ((s.modChecker l f).lane l).checker = f (s.lane l).checker := by
  cases l <;> rfl

@[simp] theorem modChecker_ctl (l : LaneId) (f : MaskChecker → MaskChecker) (m : LaneId) : ((s.modChecker l f).lane m).ctl = (s.lane m).ctl := by
  cases l <;> cases m <;> rfl

@[simp] theorem modChecker_station (l : LaneId) (f : MaskChecker → MaskChecker) (m : LaneId) : ((s.modChecker l f).lane m).station = (s.lane m).station := by
  cases l <;> cases m <;> rfl

@[simp] theorem modChecker_path (l : LaneId) (f : MaskChecker → MaskChecker) (m : LaneId) : ((s.modChecker l f).lane m).path = (s.lane m).path := by
  cases l <;> cases m <;> rfl

@[simp] theorem modChecker_meter (l : LaneId) (f : MaskChecker → MaskChecker) (m : LaneId) : ((s.modChecker l f).lane m).meter = (s.lane m).meter := by
  cases l <;> cases m <;> rfl

theorem modChecker_lane_ne (l m : LaneId) (f : MaskChecker → MaskChecker) (h : m ≠ l) : (s.modChecker l f).lane m = s.lane m := by
  cases l <;> cases m <;> first | rfl | exact absurd rfl h

@[simp] theorem modChecker_port (l : LaneId) (f : MaskChecker → MaskChecker) (p : Port) : (s.modChecker l f).port p = s.port p := by
  cases l <;> cases p <;> rfl

@[simp] theorem modPath_path (l : LaneId) (f : PathExec → PathExec) : ((s.modPath l f).lane l).path = f (s.lane l).path := by
  cases l <;> rfl

@[simp] theorem modPath_ctl (l : LaneId) (f : PathExec → PathExec) (m : LaneId) : ((s.modPath l f).lane m).ctl = (s.lane m).ctl := by
  cases l <;> cases m <;> rfl

@[simp] theorem modPath_station (l : LaneId) (f : PathExec → PathExec) (m : LaneId) : ((s.modPath l f).lane m).station = (s.lane m).station := by
  cases l <;> cases m <;> rfl

@[simp] theorem modPath_checker (l : LaneId) (f : PathExec → PathExec) (m : LaneId) : ((s.modPath l f).lane m).checker = (s.lane m).checker := by
  cases l <;> cases m <;> rfl

@[simp] theorem modPath_meter (l : LaneId) (f : PathExec → PathExec) (m : LaneId) : ((s.modPath l f).lane m).meter = (s.lane m).meter := by
  cases l <;> cases m <;> rfl

theorem modPath_lane_ne (l m : LaneId) (f : PathExec → PathExec) (h : m ≠ l) : (s.modPath l f).lane m = s.lane m := by
  cases l <;> cases m <;> first | rfl | exact absurd rfl h

@[simp] theorem modPath_port (l : LaneId) (f : PathExec → PathExec) (p : Port) : (s.modPath l f).port p = s.port p := by
  cases l <;> cases p <;> rfl

@[simp] theorem modMeter_meter (l : LaneId) (f : FlowMeter → FlowMeter) : ((s.modMeter l f).lane l).meter = f (s.lane l).meter := by
  cases l <;> rfl

@[simp] theorem modMeter_ctl (l : LaneId) (f : FlowMeter → FlowMeter) (m : LaneId) : ((s.modMeter l f).lane m).ctl = (s.lane m).ctl := by
  cases l <;> cases m <;> rfl

@[simp] theorem modMeter_station (l : LaneId) (f : FlowMeter → FlowMeter) (m : LaneId) : ((s.modMeter l f).lane m).station = (s.lane m).station := by
  cases l <;> cases m <;> rfl

@[simp] theorem modMeter_checker (l : LaneId) (f : FlowMeter → FlowMeter) (m : LaneId) : ((s.modMeter l f).lane m).checker = (s.lane m).checker := by
  cases l <;> cases m <;> rfl

@[simp] theorem modMeter_path (l : LaneId) (f : FlowMeter → FlowMeter) (m : LaneId) : ((s.modMeter l f).lane m).path = (s.lane m).path := by
  cases l <;> cases m <;> rfl

theorem modMeter_lane_ne (l m : LaneId) (f : FlowMeter → FlowMeter) (h : m ≠ l) : (s.modMeter l f).lane m = s.lane m := by
  cases l <;> cases m <;> first | rfl | exact absurd rfl h

@[simp] theorem modMeter_port (l : LaneId) (f : FlowMeter → FlowMeter) (p : Port) : (s.modMeter l f).port p = s.port p := by
  cases l <;> cases p <;> rfl

@[simp] theorem setLaneState_state (l : LaneId) (x : LaneState) : ((s.setLaneState l x).lane l).ctl.state = x := by
  cases l <;> rfl

@[simp] theorem setLaneState_station (l : LaneId) (x : LaneState) (m : LaneId) : ((s.setLaneState l x).lane m).station = (s.lane m).station := by
  cases l <;> cases m <;> rfl

@[simp] theorem setLaneState_checker (l : LaneId) (x : LaneState) (m : LaneId) : ((s.setLaneState l x).lane m).checker = (s.lane m).checker := by
  cases l <;> cases m <;> rfl

@[simp] theorem setLaneState_path (l : LaneId) (x : LaneState) (m : LaneId) : ((s.setLaneState l x).lane m).path = (s.lane m).path := by
  cases l <;> cases m <;> rfl

@[simp] theorem setLaneState_meter (l : LaneId) (x : LaneState) (m : LaneId) : ((s.setLaneState l x).lane m).meter = (s.lane m).meter := by
  cases l <;> cases m <;> rfl

theorem setLaneState_lane_ne (l m : LaneId) (x : LaneState) (h : m ≠ l) : (s.setLaneState l x).lane m = s.lane m := by
  cases l <;> cases m <;> first | rfl | exact absurd rfl h

@[simp] theorem setLaneState_port (l : LaneId) (x : LaneState) (p : Port) : (s.setLaneState l x).port p = s.port p := by
  cases l <;> cases p <;> rfl

/-! ### Taking and answering -/

@[simp] theorem taken_clock (p : Port) (rest : List Frame) : (s.taken p rest).clock = s.clock := by cases p <;> rfl
@[simp] theorem taken_settings (p : Port) (rest : List Frame) : (s.taken p rest).settings = s.settings := by cases p <;> rfl
@[simp] theorem taken_store (p : Port) (rest : List Frame) : (s.taken p rest).store = s.store := by cases p <;> rfl
@[simp] theorem taken_records (p : Port) (rest : List Frame) : (s.taken p rest).records = s.records := by cases p <;> rfl
@[simp] theorem taken_lane0 (p : Port) (rest : List Frame) : (s.taken p rest).lane0 = s.lane0 := by cases p <;> rfl
@[simp] theorem taken_lane1 (p : Port) (rest : List Frame) : (s.taken p rest).lane1 = s.lane1 := by cases p <;> rfl
@[simp] theorem taken_gate (p : Port) (rest : List Frame) : (s.taken p rest).gate = s.gate := by cases p <;> rfl
@[simp] theorem taken_oven (p : Port) (rest : List Frame) : (s.taken p rest).oven = s.oven := by cases p <;> rfl
@[simp] theorem taken_holds (p : Port) (rest : List Frame) : (s.taken p rest).holds = s.holds := by cases p <;> rfl
@[simp] theorem taken_freeCount (p : Port) (rest : List Frame) : (s.taken p rest).freeCount = s.freeCount := by cases p <;> rfl
@[simp] theorem taken_pending (p : Port) (rest : List Frame) : (s.taken p rest).pending = s.pending := by cases p <;> rfl

@[simp] theorem answered_clock (p : Port) (n : Nat) (r : TxFrame) : (s.answered p n r).clock = s.clock := by cases p <;> rfl
@[simp] theorem answered_settings (p : Port) (n : Nat) (r : TxFrame) : (s.answered p n r).settings = s.settings := by cases p <;> rfl
@[simp] theorem answered_store (p : Port) (n : Nat) (r : TxFrame) : (s.answered p n r).store = s.store := by cases p <;> rfl
@[simp] theorem answered_records (p : Port) (n : Nat) (r : TxFrame) : (s.answered p n r).records = s.records := by cases p <;> rfl
@[simp] theorem answered_lane0 (p : Port) (n : Nat) (r : TxFrame) : (s.answered p n r).lane0 = s.lane0 := by cases p <;> rfl
@[simp] theorem answered_lane1 (p : Port) (n : Nat) (r : TxFrame) : (s.answered p n r).lane1 = s.lane1 := by cases p <;> rfl
@[simp] theorem answered_gate (p : Port) (n : Nat) (r : TxFrame) : (s.answered p n r).gate = s.gate := by cases p <;> rfl
@[simp] theorem answered_oven (p : Port) (n : Nat) (r : TxFrame) : (s.answered p n r).oven = s.oven := by cases p <;> rfl
@[simp] theorem answered_holds (p : Port) (n : Nat) (r : TxFrame) : (s.answered p n r).holds = s.holds := by cases p <;> rfl
@[simp] theorem answered_freeCount (p : Port) (n : Nat) (r : TxFrame) : (s.answered p n r).freeCount = s.freeCount := by cases p <;> rfl
@[simp] theorem answered_pending (p : Port) (n : Nat) (r : TxFrame) : (s.answered p n r).pending = s.pending := by cases p <;> rfl

@[simp] theorem taken_lane (p : Port) (rest : List Frame) (l : LaneId) : (s.taken p rest).lane l = s.lane l := by cases p <;> rfl
@[simp] theorem taken_recipe (p : Port) (rest : List Frame) (i : Fin 8) : (s.taken p rest).recipe i = s.recipe i := by cases p <;> rfl
@[simp] theorem taken_board (p : Port) (rest : List Frame) (l : LaneId) : (s.taken p rest).board l = s.board l := by cases p <;> rfl
@[simp] theorem taken_record? (p : Port) (rest : List Frame) (m : Serial) : (s.taken p rest).record? m = s.record? m := by cases p <;> rfl
@[simp] theorem taken_freeEntries (p : Port) (rest : List Frame) : (s.taken p rest).freeEntries = s.freeEntries := by cases p <;> rfl

@[simp] theorem answered_lane (p : Port) (n : Nat) (r : TxFrame) (l : LaneId) : (s.answered p n r).lane l = s.lane l := by cases p <;> rfl
@[simp] theorem answered_recipe (p : Port) (n : Nat) (r : TxFrame) (i : Fin 8) : (s.answered p n r).recipe i = s.recipe i := by cases p <;> rfl
@[simp] theorem answered_board (p : Port) (n : Nat) (r : TxFrame) (l : LaneId) : (s.answered p n r).board l = s.board l := by cases p <;> rfl
@[simp] theorem answered_record? (p : Port) (n : Nat) (r : TxFrame) (m : Serial) : (s.answered p n r).record? m = s.record? m := by cases p <;> rfl
@[simp] theorem answered_freeEntries (p : Port) (n : Nat) (r : TxFrame) : (s.answered p n r).freeEntries = s.freeEntries := by cases p <;> rfl

/-! ### Records -/

@[simp] theorem modRecord_clock (n : Serial) (f : BoardRecord → BoardRecord) : (s.modRecord n f).clock = s.clock := rfl
@[simp] theorem modRecord_line (n : Serial) (f : BoardRecord → BoardRecord) : (s.modRecord n f).line = s.line := rfl
@[simp] theorem modRecord_bench (n : Serial) (f : BoardRecord → BoardRecord) : (s.modRecord n f).bench = s.bench := rfl
@[simp] theorem modRecord_settings (n : Serial) (f : BoardRecord → BoardRecord) : (s.modRecord n f).settings = s.settings := rfl
@[simp] theorem modRecord_store (n : Serial) (f : BoardRecord → BoardRecord) : (s.modRecord n f).store = s.store := rfl
@[simp] theorem modRecord_lane0 (n : Serial) (f : BoardRecord → BoardRecord) : (s.modRecord n f).lane0 = s.lane0 := rfl
@[simp] theorem modRecord_lane1 (n : Serial) (f : BoardRecord → BoardRecord) : (s.modRecord n f).lane1 = s.lane1 := rfl
@[simp] theorem modRecord_gate (n : Serial) (f : BoardRecord → BoardRecord) : (s.modRecord n f).gate = s.gate := rfl
@[simp] theorem modRecord_oven (n : Serial) (f : BoardRecord → BoardRecord) : (s.modRecord n f).oven = s.oven := rfl
@[simp] theorem modRecord_holds (n : Serial) (f : BoardRecord → BoardRecord) : (s.modRecord n f).holds = s.holds := rfl
@[simp] theorem modRecord_freeCount (n : Serial) (f : BoardRecord → BoardRecord) : (s.modRecord n f).freeCount = s.freeCount := rfl
@[simp] theorem modRecord_pending (n : Serial) (f : BoardRecord → BoardRecord) : (s.modRecord n f).pending = s.pending := rfl

@[simp] theorem removeRecord_clock (n : Serial) : (s.removeRecord n).clock = s.clock := rfl
@[simp] theorem removeRecord_line (n : Serial) : (s.removeRecord n).line = s.line := rfl
@[simp] theorem removeRecord_bench (n : Serial) : (s.removeRecord n).bench = s.bench := rfl
@[simp] theorem removeRecord_settings (n : Serial) : (s.removeRecord n).settings = s.settings := rfl
@[simp] theorem removeRecord_store (n : Serial) : (s.removeRecord n).store = s.store := rfl
@[simp] theorem removeRecord_lane0 (n : Serial) : (s.removeRecord n).lane0 = s.lane0 := rfl
@[simp] theorem removeRecord_lane1 (n : Serial) : (s.removeRecord n).lane1 = s.lane1 := rfl
@[simp] theorem removeRecord_gate (n : Serial) : (s.removeRecord n).gate = s.gate := rfl
@[simp] theorem removeRecord_oven (n : Serial) : (s.removeRecord n).oven = s.oven := rfl
@[simp] theorem removeRecord_holds (n : Serial) : (s.removeRecord n).holds = s.holds := rfl
@[simp] theorem removeRecord_freeCount (n : Serial) : (s.removeRecord n).freeCount = s.freeCount := rfl
@[simp] theorem removeRecord_pending (n : Serial) : (s.removeRecord n).pending = s.pending := rfl

@[simp] theorem addReason_clock (n : Serial) (r : Reason) : (s.addReason n r).clock = s.clock := rfl
@[simp] theorem addReason_line (n : Serial) (r : Reason) : (s.addReason n r).line = s.line := rfl
@[simp] theorem addReason_bench (n : Serial) (r : Reason) : (s.addReason n r).bench = s.bench := rfl
@[simp] theorem addReason_settings (n : Serial) (r : Reason) : (s.addReason n r).settings = s.settings := rfl
@[simp] theorem addReason_store (n : Serial) (r : Reason) : (s.addReason n r).store = s.store := rfl
@[simp] theorem addReason_lane0 (n : Serial) (r : Reason) : (s.addReason n r).lane0 = s.lane0 := rfl
@[simp] theorem addReason_lane1 (n : Serial) (r : Reason) : (s.addReason n r).lane1 = s.lane1 := rfl
@[simp] theorem addReason_gate (n : Serial) (r : Reason) : (s.addReason n r).gate = s.gate := rfl
@[simp] theorem addReason_oven (n : Serial) (r : Reason) : (s.addReason n r).oven = s.oven := rfl
@[simp] theorem addReason_holds (n : Serial) (r : Reason) : (s.addReason n r).holds = s.holds := rfl
@[simp] theorem addReason_freeCount (n : Serial) (r : Reason) : (s.addReason n r).freeCount = s.freeCount := rfl
@[simp] theorem addReason_pending (n : Serial) (r : Reason) : (s.addReason n r).pending = s.pending := rfl

@[simp] theorem modRecord_port (n : Serial) (f : BoardRecord → BoardRecord) (p : Port) : (s.modRecord n f).port p = s.port p := by cases p <;> rfl
@[simp] theorem modRecord_lane (n : Serial) (f : BoardRecord → BoardRecord) (l : LaneId) : (s.modRecord n f).lane l = s.lane l := by cases l <;> rfl

@[simp] theorem removeRecord_port (n : Serial) (p : Port) : (s.removeRecord n).port p = s.port p := by cases p <;> rfl
@[simp] theorem removeRecord_lane (n : Serial) (l : LaneId) : (s.removeRecord n).lane l = s.lane l := by cases l <;> rfl

@[simp] theorem addReason_port (n : Serial) (r : Reason) (p : Port) : (s.addReason n r).port p = s.port p := by cases p <;> rfl
@[simp] theorem addReason_lane (n : Serial) (r : Reason) (l : LaneId) : (s.addReason n r).lane l = s.lane l := by cases l <;> rfl

@[simp] theorem removeHold_port (n : Serial) (p : Port) : (s.removeHold n).port p = s.port p := by cases p <;> rfl
@[simp] theorem removeHold_lane (n : Serial) (l : LaneId) : (s.removeHold n).lane l = s.lane l := by cases l <;> rfl

/-! ### Holds, recipes and the gate -/

@[simp] theorem removeHold_clock (n : Serial) : (s.removeHold n).clock = s.clock := rfl
@[simp] theorem removeHold_line (n : Serial) : (s.removeHold n).line = s.line := rfl
@[simp] theorem removeHold_bench (n : Serial) : (s.removeHold n).bench = s.bench := rfl
@[simp] theorem removeHold_settings (n : Serial) : (s.removeHold n).settings = s.settings := rfl
@[simp] theorem removeHold_store (n : Serial) : (s.removeHold n).store = s.store := rfl
@[simp] theorem removeHold_records (n : Serial) : (s.removeHold n).records = s.records := rfl
@[simp] theorem removeHold_lane0 (n : Serial) : (s.removeHold n).lane0 = s.lane0 := rfl
@[simp] theorem removeHold_lane1 (n : Serial) : (s.removeHold n).lane1 = s.lane1 := rfl
@[simp] theorem removeHold_gate (n : Serial) : (s.removeHold n).gate = s.gate := rfl
@[simp] theorem removeHold_oven (n : Serial) : (s.removeHold n).oven = s.oven := rfl
@[simp] theorem removeHold_freeCount (n : Serial) : (s.removeHold n).freeCount = s.freeCount := rfl
@[simp] theorem removeHold_pending (n : Serial) : (s.removeHold n).pending = s.pending := rfl

@[simp] theorem setRecipe_clock (i : Fin 8) (r : RecipeSlot) : (s.setRecipe i r).clock = s.clock := rfl
@[simp] theorem setRecipe_line (i : Fin 8) (r : RecipeSlot) : (s.setRecipe i r).line = s.line := rfl
@[simp] theorem setRecipe_bench (i : Fin 8) (r : RecipeSlot) : (s.setRecipe i r).bench = s.bench := rfl
@[simp] theorem setRecipe_settings (i : Fin 8) (r : RecipeSlot) : (s.setRecipe i r).settings = s.settings := rfl
@[simp] theorem setRecipe_records (i : Fin 8) (r : RecipeSlot) : (s.setRecipe i r).records = s.records := rfl
@[simp] theorem setRecipe_lane0 (i : Fin 8) (r : RecipeSlot) : (s.setRecipe i r).lane0 = s.lane0 := rfl
@[simp] theorem setRecipe_lane1 (i : Fin 8) (r : RecipeSlot) : (s.setRecipe i r).lane1 = s.lane1 := rfl
@[simp] theorem setRecipe_gate (i : Fin 8) (r : RecipeSlot) : (s.setRecipe i r).gate = s.gate := rfl
@[simp] theorem setRecipe_oven (i : Fin 8) (r : RecipeSlot) : (s.setRecipe i r).oven = s.oven := rfl
@[simp] theorem setRecipe_holds (i : Fin 8) (r : RecipeSlot) : (s.setRecipe i r).holds = s.holds := rfl
@[simp] theorem setRecipe_freeCount (i : Fin 8) (r : RecipeSlot) : (s.setRecipe i r).freeCount = s.freeCount := rfl
@[simp] theorem setRecipe_pending (i : Fin 8) (r : RecipeSlot) : (s.setRecipe i r).pending = s.pending := rfl

@[simp] theorem setAliases_clock (t : List (Nat × Fin 8)) : (s.setAliases t).clock = s.clock := rfl
@[simp] theorem setAliases_line (t : List (Nat × Fin 8)) : (s.setAliases t).line = s.line := rfl
@[simp] theorem setAliases_bench (t : List (Nat × Fin 8)) : (s.setAliases t).bench = s.bench := rfl
@[simp] theorem setAliases_settings (t : List (Nat × Fin 8)) : (s.setAliases t).settings = s.settings := rfl
@[simp] theorem setAliases_records (t : List (Nat × Fin 8)) : (s.setAliases t).records = s.records := rfl
@[simp] theorem setAliases_lane0 (t : List (Nat × Fin 8)) : (s.setAliases t).lane0 = s.lane0 := rfl
@[simp] theorem setAliases_lane1 (t : List (Nat × Fin 8)) : (s.setAliases t).lane1 = s.lane1 := rfl
@[simp] theorem setAliases_gate (t : List (Nat × Fin 8)) : (s.setAliases t).gate = s.gate := rfl
@[simp] theorem setAliases_oven (t : List (Nat × Fin 8)) : (s.setAliases t).oven = s.oven := rfl
@[simp] theorem setAliases_holds (t : List (Nat × Fin 8)) : (s.setAliases t).holds = s.holds := rfl
@[simp] theorem setAliases_freeCount (t : List (Nat × Fin 8)) : (s.setAliases t).freeCount = s.freeCount := rfl
@[simp] theorem setAliases_pending (t : List (Nat × Fin 8)) : (s.setAliases t).pending = s.pending := rfl

@[simp] theorem endGrant_clock  : (s.endGrant).clock = s.clock := rfl
@[simp] theorem endGrant_line  : (s.endGrant).line = s.line := rfl
@[simp] theorem endGrant_bench  : (s.endGrant).bench = s.bench := rfl
@[simp] theorem endGrant_settings  : (s.endGrant).settings = s.settings := rfl
@[simp] theorem endGrant_store  : (s.endGrant).store = s.store := rfl
@[simp] theorem endGrant_records  : (s.endGrant).records = s.records := rfl
@[simp] theorem endGrant_lane0  : (s.endGrant).lane0 = s.lane0 := rfl
@[simp] theorem endGrant_lane1  : (s.endGrant).lane1 = s.lane1 := rfl
@[simp] theorem endGrant_oven  : (s.endGrant).oven = s.oven := rfl
@[simp] theorem endGrant_holds  : (s.endGrant).holds = s.holds := rfl
@[simp] theorem endGrant_freeCount  : (s.endGrant).freeCount = s.freeCount := rfl
@[simp] theorem endGrant_pending  : (s.endGrant).pending = s.pending := rfl

@[simp] theorem emptyStation_clock  : (s.emptyStation).clock = s.clock := rfl
@[simp] theorem emptyStation_line  : (s.emptyStation).line = s.line := rfl
@[simp] theorem emptyStation_bench  : (s.emptyStation).bench = s.bench := rfl
@[simp] theorem emptyStation_settings  : (s.emptyStation).settings = s.settings := rfl
@[simp] theorem emptyStation_store  : (s.emptyStation).store = s.store := rfl
@[simp] theorem emptyStation_records  : (s.emptyStation).records = s.records := rfl
@[simp] theorem emptyStation_lane0  : (s.emptyStation).lane0 = s.lane0 := rfl
@[simp] theorem emptyStation_lane1  : (s.emptyStation).lane1 = s.lane1 := rfl
@[simp] theorem emptyStation_oven  : (s.emptyStation).oven = s.oven := rfl
@[simp] theorem emptyStation_holds  : (s.emptyStation).holds = s.holds := rfl
@[simp] theorem emptyStation_freeCount  : (s.emptyStation).freeCount = s.freeCount := rfl
@[simp] theorem emptyStation_pending  : (s.emptyStation).pending = s.pending := rfl

@[simp] theorem enterStation_clock (b : BoardRecord) : (s.enterStation b).clock = s.clock := rfl
@[simp] theorem enterStation_line (b : BoardRecord) : (s.enterStation b).line = s.line := rfl
@[simp] theorem enterStation_bench (b : BoardRecord) : (s.enterStation b).bench = s.bench := rfl
@[simp] theorem enterStation_settings (b : BoardRecord) : (s.enterStation b).settings = s.settings := rfl
@[simp] theorem enterStation_store (b : BoardRecord) : (s.enterStation b).store = s.store := rfl
@[simp] theorem enterStation_records (b : BoardRecord) : (s.enterStation b).records = s.records := rfl
@[simp] theorem enterStation_lane0 (b : BoardRecord) : (s.enterStation b).lane0 = s.lane0 := rfl
@[simp] theorem enterStation_lane1 (b : BoardRecord) : (s.enterStation b).lane1 = s.lane1 := rfl
@[simp] theorem enterStation_oven (b : BoardRecord) : (s.enterStation b).oven = s.oven := rfl
@[simp] theorem enterStation_holds (b : BoardRecord) : (s.enterStation b).holds = s.holds := rfl
@[simp] theorem enterStation_freeCount (b : BoardRecord) : (s.enterStation b).freeCount = s.freeCount := rfl
@[simp] theorem enterStation_pending (b : BoardRecord) : (s.enterStation b).pending = s.pending := rfl

@[simp] theorem setExit_exit (g : Gate) (l : LaneId) (w : Option Waiting) : (g.setExit l w).exit l = w := by
  cases l <;> rfl

theorem setExit_exit_ne (g : Gate) (l m : LaneId) (w : Option Waiting) (h : m ≠ l) : (g.setExit l w).exit m = g.exit m := by
  cases l <;> cases m <;> first | rfl | exact absurd rfl h

@[simp] theorem setExit_grant (g : Gate) (l : LaneId) (w : Option Waiting) : (g.setExit l w).grant = g.grant := by
  cases l <;> rfl

@[simp] theorem setExit_station (g : Gate) (l : LaneId) (w : Option Waiting) : (g.setExit l w).station = g.station := by
  cases l <;> rfl

@[simp] theorem setExit_ovenAccept (g : Gate) (l : LaneId) (w : Option Waiting) :
    (g.setExit l w).ovenAccept = g.ovenAccept := by cases l <;> rfl

end Sys2Proof.Machine
end

