-- ==== Sys2Proof/Laws/Ops.lean ====
section
/-!
SUPPORT. One lemma for each shared operation that says what it can do: fields of payloads, raising an event, taking a
command, holds, and the gate.
-/

namespace Sys2Proof.Machine

open Sys2Proof

/-! ### Fields of payloads -/

@[simp] theorem byteAt_zero (b : Byte) (d : List Byte) : byteAt (b :: d) 0 = b := rfl

@[simp] theorem byteAt_succ (b : Byte) (d : List Byte) (i : Nat) : byteAt (b :: d) (i + 1) = byteAt d i := rfl

@[simp] theorem word16At_succ (b : Byte) (d : List Byte) (i : Nat) : word16At (b :: d) (i + 1) = word16At d i := rfl

@[simp] theorem word32At_succ (b : Byte) (d : List Byte) (i : Nat) : word32At (b :: d) (i + 1) = word32At d i := rfl

@[simp] theorem bytes16_length (n : Nat) : (bytes16 n).length = 2 := rfl

@[simp] theorem bytes32_length (n : Nat) : (bytes32 n).length = 4 := rfl

theorem word16At_bytes16 (n : Nat) (d : List Byte) : word16At (bytes16 n ++ d) 0 = n % 65536 := by
  simp [word16At, bytes16, byteAt, toByte, BitVec.toNat_ofNat]
  omega

theorem word16At_bytes16_skip (n : Nat) (d : List Byte) (i : Nat) :
    word16At (bytes16 n ++ d) (i + 2) = word16At d i := rfl

theorem word32At_bytes32 (n : Nat) (d : List Byte) : word32At (bytes32 n ++ d) 0 = n % 2 ^ 32 := by
  simp [word32At, word16At, bytes32, bytes16, byteAt, toByte, BitVec.toNat_ofNat]
  omega

theorem word16At_bytes32_skip (n : Nat) (d : List Byte) (i : Nat) :
    word16At (bytes32 n ++ d) (i + 4) = word16At d i := rfl

theorem byteAt_bytes32_skip (n : Nat) (d : List Byte) (i : Nat) : byteAt (bytes32 n ++ d) (i + 4) = byteAt d i := rfl

/-! ### Raising an event (R9, R10) -/

section Raise
variable (k : EventKind) (l : Option LaneId) (n : Serial) (c : Nat) (s : State)

@[simp] theorem raise_port (p : Port) : (raise k l n c s).port p = raiseIn k ⟨l, n, c, s.clock⟩ (s.port p) := by
  cases p <;> rfl

@[simp] theorem raise_lane (m : LaneId) : (raise k l n c s).lane m = s.lane m := by cases m <;> rfl

@[simp] theorem raise_clock : (raise k l n c s).clock = s.clock := rfl

@[simp] theorem raise_settings : (raise k l n c s).settings = s.settings := rfl

@[simp] theorem raise_store : (raise k l n c s).store = s.store := rfl

@[simp] theorem raise_records : (raise k l n c s).records = s.records := rfl

@[simp] theorem raise_lane0 : (raise k l n c s).lane0 = s.lane0 := rfl

@[simp] theorem raise_lane1 : (raise k l n c s).lane1 = s.lane1 := rfl

@[simp] theorem raise_gate : (raise k l n c s).gate = s.gate := rfl

@[simp] theorem raise_oven : (raise k l n c s).oven = s.oven := rfl

@[simp] theorem raise_holds : (raise k l n c s).holds = s.holds := rfl

@[simp] theorem raise_freeCount : (raise k l n c s).freeCount = s.freeCount := rfl

@[simp] theorem raise_pending : (raise k l n c s).pending = s.pending := rfl

end Raise

section RaiseIn
variable (k : EventKind) (d : Detail) (ps : PortState)

/-- A clear flag rises: count 1, the event's detail, and a notice as the mask and the queue have it. -/
theorem raiseIn_clear (h : ps.events[k.idx] = none) :
    raiseIn k d ps =
      let up := { ps with events := ps.events.set k.idx (some ⟨d, 1⟩) }
      if ps.mask[k.idx] then queueNotice (noticeFrame k d) up else up := by
  simp [raiseIn, h]

/-- A raised flag counts, saturating at 255, and keeps its detail; nothing is queued. -/
theorem raiseIn_raised (r : EventRecord) (h : ps.events[k.idx] = some r) :
    raiseIn k d ps =
      { ps with events := ps.events.set k.idx (some { r with count := satAdd 255 r.count 1 }) } := by
  simp [raiseIn, h]

theorem queueNotice_cases (f : Frame) :
    (noticeCount ps < 16 ∧ queueNotice f ps = { ps with tx := ps.tx ++ [⟨true, f⟩] }) ∨
      (16 ≤ noticeCount ps ∧ queueNotice f ps = ps) := by
  unfold queueNotice
  split
  · exact .inl ⟨‹_›, rfl⟩
  · exact .inr ⟨by omega, rfl⟩

/-- Everything raising an event can do to a port: one record set, and at most one notice behind the queue. -/
theorem raiseIn_cases :
    ∃ r : EventRecord, ∃ added : List TxFrame,
      raiseIn k d ps = { ps with events := ps.events.set k.idx (some r), tx := ps.tx ++ added } ∧
      (added = [] ∨ added = [⟨true, noticeFrame k d⟩] ∧ noticeCount ps < 16) ∧ 1 ≤ r.count := by
  unfold raiseIn
  split
  · rename_i h
    by_cases hm : ps.mask[k.idx] = true
    · rcases queueNotice_cases { ps with events := ps.events.set k.idx (some ⟨d, 1⟩) } (noticeFrame k d) with
        ⟨hn, hq⟩ | ⟨_, hq⟩
      · exact ⟨⟨d, 1⟩, _, by simp [hm, hq], .inr ⟨rfl, hn⟩, Nat.le_refl 1⟩
      · exact ⟨⟨d, 1⟩, [], by simp [hm, hq], .inl rfl, Nat.le_refl 1⟩
    · exact ⟨⟨d, 1⟩, [], by simp [hm], .inl rfl, Nat.le_refl 1⟩
  · rename_i r _
    exact ⟨{ r with count := satAdd 255 r.count 1 }, [], by simp, .inl rfl, by simp [satAdd]⟩

@[simp] theorem raiseIn_rx : (raiseIn k d ps).rx = ps.rx := by
  obtain ⟨r, a, h, -⟩ := raiseIn_cases k d ps
  rw [h]

@[simp] theorem raiseIn_mask : (raiseIn k d ps).mask = ps.mask := by
  obtain ⟨r, a, h, -⟩ := raiseIn_cases k d ps
  rw [h]

@[simp] theorem raiseIn_frameErrors : (raiseIn k d ps).frameErrors = ps.frameErrors := by
  obtain ⟨r, a, h, -⟩ := raiseIn_cases k d ps
  rw [h]

@[simp] theorem raiseIn_rxState : (raiseIn k d ps).rxState = ps.rxState := by
  obtain ⟨r, a, h, -⟩ := raiseIn_cases k d ps
  rw [h]

end RaiseIn

/-! ### Taking a command (R4 to R6) -/

theorem takeable_iff_ready (p : Port) (f : Frame) (s : State) :
    takeable p f s = true ↔ ∃ rest, s.Ready p f rest := by
  unfold takeable State.Ready
  cases h : (s.port p).rx with
  | nil => simp
  | cons g gs => simp [List.all_eq_true]

/-- A command whose frame is not at the head, or whose port owes a reply, changes nothing. -/
theorem takeCommand_of_not_takeable (p : Port) (f : Frame) (body : State → Answer) (s : State)
    (h : takeable p f s = false) : takeCommand p f body s = s := by
  simp [takeCommand, h]

/-- A command taken: its frame leaves the queue, its body runs, and its reply stands behind the notices of before. -/
theorem takeCommand_of_ready (p : Port) (f : Frame) (rest : List Frame) (body : State → Answer) (s : State)
    (h : s.Ready p f rest) :
    takeCommand p f body s =
      (body (s.taken p rest)).st.answered p (s.txLength p)
        ⟨false, replyFrame f (body (s.taken p rest)).status (body (s.taken p rest)).data⟩ := by
  have ht : takeable p f s = true := (takeable_iff_ready p f s).2 ⟨rest, h⟩
  have hp : (s.modPort p fun ps => { ps with rx := ps.rx.tail }) = s.taken p rest := by
    have hr := h.1
    cases p <;> simp_all [State.taken, State.modPort, State.port]
  simp only [takeCommand, ht, if_true, hp, State.txLength, State.answered]

/-- A refused command: the frame leaves the queue and the status alone is replied. -/
theorem takeCommand_refused (p : Port) (f : Frame) (rest : List Frame) (body : State → Answer) (s : State)
    (status : Status) (h : s.Ready p f rest) (hs : status ≠ .ok) (hc : status ≠ .clamped)
    (hb : body (s.taken p rest) = refuse status (s.taken p rest)) :
    takeCommand p f body s = (s.taken p rest).answered p (s.txLength p) (reply f status []) := by
  rw [takeCommand_of_ready p f rest body s h, hb]
  simp [refuse, reply, replyFrame, hs, hc]

/-- A command answered OK: the frame leaves the queue, the command has its effects, and the reply carries its
fields. -/
theorem takeCommand_accepted (p : Port) (f : Frame) (rest : List Frame) (body : State → Answer) (s t : State)
    (data : List Byte) (h : s.Ready p f rest) (hb : body (s.taken p rest) = accept data t) :
    takeCommand p f body s = t.answered p (s.txLength p) (reply f .ok data) := by
  rw [takeCommand_of_ready p f rest body s h, hb]
  simp [accept, reply, replyFrame]

/-! ### Records -/

theorem record?_serial (s : State) (n : Serial) (b : BoardRecord) (h : s.record? n = some b) : b.serial = n := by
  have := List.find?_some h
  simpa using this

theorem record?_mem (s : State) (n : Serial) (b : BoardRecord) (h : s.record? n = some b) : b ∈ s.records :=
  List.mem_of_find?_eq_some h

theorem board_location (s : State) (l : LaneId) (b : BoardRecord) (h : s.board l = some b) : b.location = .lane l := by
  have := List.find?_some h
  simpa using this

theorem board_mem (s : State) (l : LaneId) (b : BoardRecord) (h : s.board l = some b) : b ∈ s.records :=
  List.mem_of_find?_eq_some h

/-- The record of a lane's current board is there under its serial. -/
theorem record?_of_board (s : State) (l : LaneId) (b : BoardRecord) (h : s.board l = some b) :
    (s.record? b.serial).isSome = true := by
  simp only [State.record?, List.find?_isSome]
  exact ⟨b, board_mem s l b h, by simp⟩

/-- Changing a record and keeping its serial keeps the list of serials. -/
theorem modRecord_serials (s : State) (n : Serial) (f : BoardRecord → BoardRecord)
    (h : ∀ r, (f r).serial = r.serial ∨ (f r).serial = n) :
    (s.modRecord n f).records.map (·.serial) = s.records.map (·.serial) := by
  simp only [State.modRecord, List.map_map]
  apply List.map_congr_left
  intro r _
  by_cases hr : r.serial = n
  · rcases h r with h1 | h1 <;> simp [hr, h1]
  · simp [hr]

/-! ### Holds (R168 to R171) -/

/-- A lane-class request: granted with three free entries, else the lane is BLOCKED and keeps its board. -/
theorem laneHold_cases (s : State) (l : LaneId) (n : Serial) :
    (s.record? n = none ∧ s.laneHold l n = s) ∨
    (∃ b, s.record? n = some b ∧ 3 ≤ s.freeEntries ∧
      s.laneHold l n = ((s.letGo l).grantHold b (.lane l)).enterEjecting l (some n)) ∨
    (∃ b, s.record? n = some b ∧ s.freeEntries < 3 ∧
      s.laneHold l n = raise .laneBlocked (some l) n s.freeEntries
        (((s.letGo l).modRecord n fun r => { r with location := .lane l }).setLaneState l .blocked)) := by
  unfold State.laneHold
  cases h : s.record? n with
  | none => exact .inl ⟨rfl, rfl⟩
  | some b =>
    by_cases hf : 3 ≤ s.freeEntries
    · exact .inr (.inl ⟨b, rfl, hf, by simp [hf]⟩)
    · exact .inr (.inr ⟨b, rfl, by omega, by simp [hf]⟩)

/-- An oven-class request: granted with one free entry, else the record is removed at overflow. -/
theorem ovenHold_cases (s : State) (b : BoardRecord) (loc : HoldLocation) :
    (1 ≤ s.freeEntries ∧ s.ovenHold b loc = s.grantHold b loc) ∨
    (s.freeEntries = 0 ∧ s.ovenHold b loc = s.overflow b 1) := by
  unfold State.ovenHold
  split
  · exact .inl ⟨‹_›, rfl⟩
  · exact .inr ⟨by omega, rfl⟩

@[simp] theorem grantHold_holds (s : State) (b : BoardRecord) (loc : HoldLocation) :
    (s.grantHold b loc).holds = s.holds ++ [s.holdEntry b loc] := rfl

@[simp] theorem grantHold_lane (s : State) (b : BoardRecord) (loc : HoldLocation) (l : LaneId) :
    (s.grantHold b loc).lane l = s.lane l := by cases l <;> rfl

@[simp] theorem grantHold_gate (s : State) (b : BoardRecord) (loc : HoldLocation) :
    (s.grantHold b loc).gate = s.gate := rfl

@[simp] theorem grantHold_oven (s : State) (b : BoardRecord) (loc : HoldLocation) :
    (s.grantHold b loc).oven = s.oven := rfl

@[simp] theorem grantHold_records (s : State) (b : BoardRecord) (loc : HoldLocation) :
    (s.grantHold b loc).records = s.records.map fun r =>
      if r.serial = b.serial then { r with stage := .held, location := .hold } else r := rfl

@[simp] theorem overflow_records (s : State) (b : BoardRecord) (c : Nat) :
    (s.overflow b c).records = s.records.filter fun r => r.serial != b.serial := rfl

@[simp] theorem overflow_holds (s : State) (b : BoardRecord) (c : Nat) : (s.overflow b c).holds = s.holds := rfl

/-- A retry grants only a BLOCKED lane's board, with three free entries; otherwise nothing changes. -/
theorem retryLane_cases (s : State) (l : LaneId) :
    s.retryLane l = s ∨
    ∃ b, s.board l = some b ∧ (s.lane l).ctl.state = .blocked ∧ 3 ≤ s.freeEntries ∧
      s.retryLane l = (s.grantHold b (.lane l)).enterEjecting l (some b.serial) := by
  unfold State.retryLane
  split
  · rename_i h
    cases hb : s.board l with
    | none => exact .inl rfl
    | some b => exact .inr ⟨b, rfl, h.1, h.2, rfl⟩
  · exact .inl rfl

/-! ### The gate (R144 to R147) -/

/-- A re-evaluation grants only a free gate, and only to the earliest eligible claim. -/
theorem reevaluate_cases (s : State) :
    s.reevaluate = s ∨
    ∃ c, s.gateFree = true ∧ earliest s.claims = some c ∧ s.reevaluate = s.grantTo c.1 := by
  unfold State.reevaluate
  split
  · rename_i h
    cases he : earliest s.claims with
    | none => exact .inl rfl
    | some c => exact .inr ⟨c, h, rfl, rfl⟩
  · exact .inl rfl

/-- The earliest claim is one of the claims. -/
theorem earliest_mem (cs : List (Source × Option Nat)) (c : Source × Option Nat) (h : earliest cs = some c) :
    c ∈ cs := by
  induction cs generalizing c with
  | nil => simp [earliest] at h
  | cons d ds ih =>
    rw [earliest] at h
    cases he : earliest ds with
    | none => simp_all
    | some e =>
      simp only [he] at h
      split at h
      · exact List.mem_cons_of_mem _ (ih e he |> fun hm => by cases h; exact hm)
      · cases h; exact List.mem_cons_self

/-- A claim belongs to an entry that is present and eligible. -/
theorem claim_mem (now : Time) (src : Source) (w : Option Waiting) (c : Source × Option Nat)
    (h : c ∈ claim now src w) : ∃ x, w = some x ∧ x.eligible = true ∧ c.1 = src := by
  unfold claim at h
  cases w with
  | none => simp at h
  | some x =>
    by_cases hx : x.eligible = true
    · simp [hx] at h
      exact ⟨x, rfl, hx, by simp [h]⟩
    · simp [hx] at h

@[simp] theorem grantTo_grant (s : State) (src : Source) : (s.grantTo src).gate.grant = some src := rfl

@[simp] theorem grantTo_holds (s : State) (src : Source) : (s.grantTo src).holds = s.holds := by
  cases src with
  | lane l =>
    unfold State.grantTo
    cases h : s.gate.exit l with
    | none => simp only [h]
    | some w => simp only [h]; simp
  | returnStation => unfold State.grantTo; cases s.gate.station <;> rfl

@[simp] theorem grantTo_oven (s : State) (src : Source) : (s.grantTo src).oven = s.oven := by
  cases src with
  | lane l =>
    unfold State.grantTo
    cases h : s.gate.exit l with
    | none => simp only [h]
    | some w => simp only [h]; simp
  | returnStation => unfold State.grantTo; cases s.gate.station <;> rfl

/-! ### A lane's arrival (R61, R62) -/

/-- What an IDLE lane makes of an ARRIVED. -/
theorem takeArrived_cases (s : State) (l : LaneId) (n : Serial) :
    (¬ (s.lane l).ctl.queue.any (·.serial == n) = true ∧
      s.takeArrived l n = (raise .strayBoard (some l) n 1 s).enterEjecting l none) ∨
    ((s.lane l).ctl.queue.any (·.serial == n) = true ∧
      ((s.record? n = none ∧ s.takeArrived l n = s) ∨
       (∃ b, s.record? n = some b ∧ (s.lane l).ctl.queue.head?.map (·.serial) = some n ∧
          s.takeArrived l n = (s.leaveQueue l n).startCheck l b) ∨
       (∃ b, s.record? n = some b ∧ (s.lane l).ctl.queue.head?.map (·.serial) ≠ some n ∧
          s.takeArrived l n = ((s.leaveQueue l n).addReason n .arrivalOrder).laneHold l n))) := by
  unfold State.takeArrived
  by_cases hq : (s.lane l).ctl.queue.any (·.serial == n) = true
  · refine .inr ⟨hq, ?_⟩
    cases hr : s.record? n with
    | none => exact .inl ⟨rfl, by simp [hq]⟩
    | some b =>
      by_cases hh : (s.lane l).ctl.queue.head?.map (·.serial) = some n
      · exact .inr (.inl ⟨b, rfl, hh, by simp [hq, hh]⟩)
      · exact .inr (.inr ⟨b, rfl, hh, by simp [hq, hh]⟩)
  · exact .inl ⟨hq, by simp [hq]⟩

/-- R62: a waiting ARRIVED after an entry to IDLE, or to OFF with disable-pending: it leaves the slot and is matched, or
is a stray of source 2. -/
theorem enterIdle_of_arrived (s : State) (l : LaneId) (n : Serial)
    (h : (s.lane l).station.boardSlot = some (.arrived n)) :
    s.enterIdle l =
      let freed := (s.modCtl l fun c => { c with
        state := if c.disablePending then .off else .idle
        disablePending := false, ejectSubject := none }).modStation l fun st => { st with boardSlot := none }
      if (s.lane l).ctl.disablePending then raise .strayBoard (some l) n 2 freed else freed.takeArrived l n := by
  cases hd : (s.lane l).ctl.disablePending <;> simp [State.enterIdle, State.serveArrived, h, hd]

end Sys2Proof.Machine
end

