-- ==== Sys2Proof/Laws/PerInstr.lean ====
section
/-!
SUPPORT. Statements for every command, one lemma per constructor: a well-formed command that is taken from a receive
queue is the one its own frame spells, and its payload fits a frame (R1, R4).
-/

namespace Sys2Proof.Laws

open Sys2Proof

/-- The frame a well-formed command is taken from fits R1 and is taken as that command. -/
def FrameSpelling.Statement (i : Instr) : Prop :=
  i.wellFormed = true → ∀ p f, frameOf i = some (p, f) → commandOf p f = i ∧ f.payload.length ≤ 200

/-- The case of the rows that are taken from no frame. -/
theorem FrameSpelling.of_no_frame (i : Instr) (h : frameOf i = none) :
    FrameSpelling.Statement i := by
  intro _ p f hf
  simp [h] at hf

/-- The case of the rows that are taken from a frame: well-formedness says it. -/
theorem FrameSpelling.of_frame (i : Instr) (q : Port) (g : Frame) (h : frameOf i = some (q, g))
    (hw : i.wellFormed = (g.fits && decide (commandOf q g = i))) : FrameSpelling.Statement i := by
  intro hi p f hf
  rw [h] at hf
  cases hf
  rw [hw, Bool.and_eq_true, decide_eq_true_iff] at hi
  exact ⟨hi.2, by simpa [Frame.fits] using hi.1⟩

theorem FrameSpelling.powerOn : FrameSpelling.Statement .powerOn :=
  FrameSpelling.of_no_frame _ rfl

theorem FrameSpelling.frameReceived (p : Port) (b : Byte) :
    FrameSpelling.Statement (.frameReceived p b) :=
  FrameSpelling.of_no_frame _ rfl

theorem FrameSpelling.frameGapExpiry (p : Port) :
    FrameSpelling.Statement (.frameGapExpiry p) :=
  FrameSpelling.of_no_frame _ rfl

theorem FrameSpelling.frameSent (p : Port) :
    FrameSpelling.Statement (.frameSent p) :=
  FrameSpelling.of_no_frame _ rfl

theorem FrameSpelling.badKindCommand (p : Port) (kind tag : Byte) (payload : List Byte) :
    FrameSpelling.Statement (.badKindCommand p kind tag payload) :=
  FrameSpelling.of_frame _ _ _ rfl rfl

theorem FrameSpelling.identify (p : Port) (tag : Byte) (payload : List Byte) :
    FrameSpelling.Statement (.identify p tag payload) :=
  FrameSpelling.of_frame _ _ _ rfl rfl

theorem FrameSpelling.getStatus (p : Port) (tag : Byte) (payload : List Byte) :
    FrameSpelling.Statement (.getStatus p tag payload) :=
  FrameSpelling.of_frame _ _ _ rfl rfl

theorem FrameSpelling.getEvents (p : Port) (tag : Byte) (payload : List Byte) :
    FrameSpelling.Statement (.getEvents p tag payload) :=
  FrameSpelling.of_frame _ _ _ rfl rfl

theorem FrameSpelling.ackEvents (p : Port) (tag : Byte) (payload : List Byte) :
    FrameSpelling.Statement (.ackEvents p tag payload) :=
  FrameSpelling.of_frame _ _ _ rfl rfl

theorem FrameSpelling.setNoticeMask (p : Port) (tag : Byte) (payload : List Byte) :
    FrameSpelling.Statement (.setNoticeMask p tag payload) :=
  FrameSpelling.of_frame _ _ _ rfl rfl

theorem FrameSpelling.getBoard (p : Port) (tag : Byte) (payload : List Byte) :
    FrameSpelling.Statement (.getBoard p tag payload) :=
  FrameSpelling.of_frame _ _ _ rfl rfl

theorem FrameSpelling.listHolds (p : Port) (tag : Byte) (payload : List Byte) :
    FrameSpelling.Statement (.listHolds p tag payload) :=
  FrameSpelling.of_frame _ _ _ rfl rfl

theorem FrameSpelling.setLineConfig (p : Port) (tag : Byte) (payload : List Byte) :
    FrameSpelling.Statement (.setLineConfig p tag payload) :=
  FrameSpelling.of_frame _ _ _ rfl rfl

theorem FrameSpelling.setLaneConfig (p : Port) (tag : Byte) (payload : List Byte) :
    FrameSpelling.Statement (.setLaneConfig p tag payload) :=
  FrameSpelling.of_frame _ _ _ rfl rfl

theorem FrameSpelling.setOvenLayout (p : Port) (tag : Byte) (payload : List Byte) :
    FrameSpelling.Statement (.setOvenLayout p tag payload) :=
  FrameSpelling.of_frame _ _ _ rfl rfl

theorem FrameSpelling.ovenAccept (p : Port) (tag : Byte) (payload : List Byte) :
    FrameSpelling.Statement (.ovenAccept p tag payload) :=
  FrameSpelling.of_frame _ _ _ rfl rfl

theorem FrameSpelling.writeRecipe (p : Port) (tag : Byte) (payload : List Byte) :
    FrameSpelling.Statement (.writeRecipe p tag payload) :=
  FrameSpelling.of_frame _ _ _ rfl rfl

theorem FrameSpelling.readRecipe (p : Port) (tag : Byte) (payload : List Byte) :
    FrameSpelling.Statement (.readRecipe p tag payload) :=
  FrameSpelling.of_frame _ _ _ rfl rfl

theorem FrameSpelling.readRecipeSummary (p : Port) (tag : Byte) (payload : List Byte) :
    FrameSpelling.Statement (.readRecipeSummary p tag payload) :=
  FrameSpelling.of_frame _ _ _ rfl rfl

theorem FrameSpelling.readFeatureMap (p : Port) (tag : Byte) (payload : List Byte) :
    FrameSpelling.Statement (.readFeatureMap p tag payload) :=
  FrameSpelling.of_frame _ _ _ rfl rfl

theorem FrameSpelling.bindAlias (p : Port) (tag : Byte) (payload : List Byte) :
    FrameSpelling.Statement (.bindAlias p tag payload) :=
  FrameSpelling.of_frame _ _ _ rfl rfl

theorem FrameSpelling.unbindAlias (p : Port) (tag : Byte) (payload : List Byte) :
    FrameSpelling.Statement (.unbindAlias p tag payload) :=
  FrameSpelling.of_frame _ _ _ rfl rfl

theorem FrameSpelling.writeFeatureMap (p : Port) (tag : Byte) (payload : List Byte) :
    FrameSpelling.Statement (.writeFeatureMap p tag payload) :=
  FrameSpelling.of_frame _ _ _ rfl rfl

theorem FrameSpelling.clearRecipes (p : Port) (tag : Byte) (payload : List Byte) :
    FrameSpelling.Statement (.clearRecipes p tag payload) :=
  FrameSpelling.of_frame _ _ _ rfl rfl

theorem FrameSpelling.clearTimerExpiry : FrameSpelling.Statement .clearTimerExpiry :=
  FrameSpelling.of_no_frame _ rfl

theorem FrameSpelling.laneEnable (p : Port) (tag : Byte) (payload : List Byte) :
    FrameSpelling.Statement (.laneEnable p tag payload) :=
  FrameSpelling.of_frame _ _ _ rfl rfl

theorem FrameSpelling.laneDisable (p : Port) (tag : Byte) (payload : List Byte) :
    FrameSpelling.Statement (.laneDisable p tag payload) :=
  FrameSpelling.of_frame _ _ _ rfl rfl

theorem FrameSpelling.laneReset (p : Port) (tag : Byte) (payload : List Byte) :
    FrameSpelling.Statement (.laneReset p tag payload) :=
  FrameSpelling.of_frame _ _ _ rfl rfl

theorem FrameSpelling.lineReset (p : Port) (tag : Byte) (payload : List Byte) :
    FrameSpelling.Statement (.lineReset p tag payload) :=
  FrameSpelling.of_frame _ _ _ rfl rfl

theorem FrameSpelling.clearNozzleCount (p : Port) (tag : Byte) (payload : List Byte) :
    FrameSpelling.Statement (.clearNozzleCount p tag payload) :=
  FrameSpelling.of_frame _ _ _ rfl rfl

theorem FrameSpelling.announce (p : Port) (tag : Byte) (payload : List Byte) :
    FrameSpelling.Statement (.announce p tag payload) :=
  FrameSpelling.of_frame _ _ _ rfl rfl

theorem FrameSpelling.withdraw (p : Port) (tag : Byte) (payload : List Byte) :
    FrameSpelling.Statement (.withdraw p tag payload) :=
  FrameSpelling.of_frame _ _ _ rfl rfl

theorem FrameSpelling.pathBegin (p : Port) (tag : Byte) (payload : List Byte) :
    FrameSpelling.Statement (.pathBegin p tag payload) :=
  FrameSpelling.of_frame _ _ _ rfl rfl

theorem FrameSpelling.segments (p : Port) (tag : Byte) (payload : List Byte) :
    FrameSpelling.Statement (.segments p tag payload) :=
  FrameSpelling.of_frame _ _ _ rfl rfl

theorem FrameSpelling.pathEnd (p : Port) (tag : Byte) (payload : List Byte) :
    FrameSpelling.Statement (.pathEnd p tag payload) :=
  FrameSpelling.of_frame _ _ _ rfl rfl

theorem FrameSpelling.pathKeep (p : Port) (tag : Byte) (payload : List Byte) :
    FrameSpelling.Statement (.pathKeep p tag payload) :=
  FrameSpelling.of_frame _ _ _ rfl rfl

theorem FrameSpelling.pathDiscard (p : Port) (tag : Byte) (payload : List Byte) :
    FrameSpelling.Statement (.pathDiscard p tag payload) :=
  FrameSpelling.of_frame _ _ _ rfl rfl

theorem FrameSpelling.disposeRelease (p : Port) (tag : Byte) (payload : List Byte) :
    FrameSpelling.Statement (.disposeRelease p tag payload) :=
  FrameSpelling.of_frame _ _ _ rfl rfl

theorem FrameSpelling.disposeScrap (p : Port) (tag : Byte) (payload : List Byte) :
    FrameSpelling.Statement (.disposeScrap p tag payload) :=
  FrameSpelling.of_frame _ _ _ rfl rfl

theorem FrameSpelling.disposeRespray (p : Port) (tag : Byte) (payload : List Byte) :
    FrameSpelling.Statement (.disposeRespray p tag payload) :=
  FrameSpelling.of_frame _ _ _ rfl rfl

theorem FrameSpelling.disposeRecure (p : Port) (tag : Byte) (payload : List Byte) :
    FrameSpelling.Statement (.disposeRecure p tag payload) :=
  FrameSpelling.of_frame _ _ _ rfl rfl

theorem FrameSpelling.slotAddressChange (l : LaneId) (slot : StationSlot) :
    FrameSpelling.Statement (.slotAddressChange l slot) :=
  FrameSpelling.of_no_frame _ rfl

theorem FrameSpelling.stationGapExpiry (l : LaneId) (slot : StationSlot) :
    FrameSpelling.Statement (.stationGapExpiry l slot) :=
  FrameSpelling.of_no_frame _ rfl

theorem FrameSpelling.startStrobe (l : LaneId) (b : Byte) :
    FrameSpelling.Statement (.startStrobe l b) :=
  FrameSpelling.of_no_frame _ rfl

theorem FrameSpelling.endStrobe (l : LaneId) (b : Byte) :
    FrameSpelling.Statement (.endStrobe l b) :=
  FrameSpelling.of_no_frame _ rfl

theorem FrameSpelling.inspectReading (l : LaneId) (b : Byte) :
    FrameSpelling.Statement (.inspectReading l b) :=
  FrameSpelling.of_no_frame _ rfl

theorem FrameSpelling.arrived (l : LaneId) (b : Byte) :
    FrameSpelling.Statement (.arrived l b) :=
  FrameSpelling.of_no_frame _ rfl

theorem FrameSpelling.cleared (l : LaneId) (b : Byte) :
    FrameSpelling.Statement (.cleared l b) :=
  FrameSpelling.of_no_frame _ rfl

theorem FrameSpelling.paceTimerExpiry (l : LaneId) :
    FrameSpelling.Statement (.paceTimerExpiry l) :=
  FrameSpelling.of_no_frame _ rfl

theorem FrameSpelling.checkTimerExpiry (l : LaneId) :
    FrameSpelling.Statement (.checkTimerExpiry l) :=
  FrameSpelling.of_no_frame _ rfl

theorem FrameSpelling.ejectTimerExpiry (l : LaneId) :
    FrameSpelling.Statement (.ejectTimerExpiry l) :=
  FrameSpelling.of_no_frame _ rfl

theorem FrameSpelling.openDelayEnd (l : LaneId) :
    FrameSpelling.Statement (.openDelayEnd l) :=
  FrameSpelling.of_no_frame _ rfl

theorem FrameSpelling.openEnd (l : LaneId) :
    FrameSpelling.Statement (.openEnd l) :=
  FrameSpelling.of_no_frame _ rfl

theorem FrameSpelling.closingEnd (l : LaneId) :
    FrameSpelling.Statement (.closingEnd l) :=
  FrameSpelling.of_no_frame _ rfl

theorem FrameSpelling.segmentGapExpiry (l : LaneId) :
    FrameSpelling.Statement (.segmentGapExpiry l) :=
  FrameSpelling.of_no_frame _ rfl

theorem FrameSpelling.flowPulse (l : LaneId) :
    FrameSpelling.Statement (.flowPulse l) :=
  FrameSpelling.of_no_frame _ rfl

theorem FrameSpelling.flashReadyExpiry (src : Source) :
    FrameSpelling.Statement (.flashReadyExpiry src) :=
  FrameSpelling.of_no_frame _ rfl

theorem FrameSpelling.laneDeadlineExpiry (l : LaneId) :
    FrameSpelling.Statement (.laneDeadlineExpiry l) :=
  FrameSpelling.of_no_frame _ rfl

theorem FrameSpelling.returnDeadlineExpiry : FrameSpelling.Statement .returnDeadlineExpiry :=
  FrameSpelling.of_no_frame _ rfl

theorem FrameSpelling.returnPresenceChange (level : Bool) :
    FrameSpelling.Statement (.returnPresenceChange level) :=
  FrameSpelling.of_no_frame _ rfl

theorem FrameSpelling.ovenEntryEvent : FrameSpelling.Statement .ovenEntryEvent :=
  FrameSpelling.of_no_frame _ rfl

theorem FrameSpelling.transferTimerExpiry : FrameSpelling.Statement .transferTimerExpiry :=
  FrameSpelling.of_no_frame _ rfl

theorem FrameSpelling.encoderPulse : FrameSpelling.Statement .encoderPulse :=
  FrameSpelling.of_no_frame _ rfl

theorem FrameSpelling.ovenSensorRecord (b : Byte) :
    FrameSpelling.Statement (.ovenSensorRecord b) :=
  FrameSpelling.of_no_frame _ rfl

theorem FrameSpelling.ovenSensorGapExpiry : FrameSpelling.Statement .ovenSensorGapExpiry :=
  FrameSpelling.of_no_frame _ rfl

theorem FrameSpelling.zoneStaleExpiry (z : Fin 6) :
    FrameSpelling.Statement (.zoneStaleExpiry z) :=
  FrameSpelling.of_no_frame _ rfl

theorem FrameSpelling.doseTick : FrameSpelling.Statement .doseTick :=
  FrameSpelling.of_no_frame _ rfl

theorem FrameSpelling.ovenExitEvent : FrameSpelling.Statement .ovenExitEvent :=
  FrameSpelling.of_no_frame _ rfl

theorem FrameSpelling.escalationDeadlineExpiry (serial : Serial) :
    FrameSpelling.Statement (.escalationDeadlineExpiry serial) :=
  FrameSpelling.of_no_frame _ rfl

theorem FrameSpelling.sprayEndTimeOld (serial : Serial) :
    FrameSpelling.Statement (.sprayEndTimeOld serial) :=
  FrameSpelling.of_no_frame _ rfl

theorem FrameSpelling.frameByteReceived (p : Port) (b : Byte) (stop : Bool) :
    FrameSpelling.Statement (.frameByteReceived p b stop) :=
  FrameSpelling.of_no_frame _ rfl

theorem FrameSpelling.stationByteWritten (l : LaneId) (slot : StationSlot) (b : Byte) :
    FrameSpelling.Statement (.stationByteWritten l slot b) :=
  FrameSpelling.of_no_frame _ rfl

theorem FrameSpelling.ovenSensorByteReceived (b : Byte) (stop : Bool) :
    FrameSpelling.Statement (.ovenSensorByteReceived b stop) :=
  FrameSpelling.of_no_frame _ rfl

end Sys2Proof.Laws
end

