-- ==== Sys2Proof/Tests/Slice0.lean ====
section
/-!
SUPPORT. Tests: worked examples of the spec, the WellFormed smoke tests, and for every statement with hypotheses a
witness: concrete states and operands that meet them, clause by clause.
-/

namespace Sys2Proof.Tests

open Sys2Proof Machine

/-! ### States to test on -/

/-- The state `s` with frame `f` at the head of port `p`'s receive queue and nothing to send. -/
def waiting (p : Port) (f : Frame) (s : State) : State := s.modPort p fun ps => { ps with rx := [f], tx := [] }

theorem waiting_ready (p : Port) (f : Frame) (s : State) : (waiting p f s).Ready p f [] := by
  cases p <;> exact ⟨rfl, fun x hx => nomatch hx⟩

/-- A READY recipe: one critical and one suppress check slot, code 5 mapped to check slot 0 with its notice flag. -/
def recipe : RecipeSlot :=
  { material := some ⟨250, 350, 10⟩, areas := some [⟨3000, 300, 800⟩], features := some [.critical, .suppress]
    cure := some ⟨800, 20, 250, 250⟩, timing := some ⟨30, 60, 600, 1800, 20, .holdWet⟩, editCount := 6
    map := clearedMap.set 5 (.checkSlot 0 true) }

/-- The reset state with that recipe in slot 0 and alias 7 on it. -/
def stocked : State :=
  { State.reset with store := { State.reset.store with
      slots := State.reset.store.slots.set 0 recipe, aliasTable := [(7, 0)] } }

/-- Board 9 of Lane 0 on slot 0. -/
def board (stage : Stage) (location : Location) : BoardRecord :=
  { serial := 9, slot := 0, lane := .lane0, stage := stage, location := location
    passAreas := Vector.ofFn fun i => decide (i.val = 0), rework := 0, verdicts := Vector.replicate 16 .unread
    tallies := Vector.replicate 12 0, coated := false, cured := false, sprayEnd := none, dose := 0, drip := 0
    reasons := emptySet 20, filmLow := emptySet 12, filmHigh := emptySet 12, maskCritical := emptySet 16 }

/-- Lane 0 in a lane state with board 9. -/
def inLane (x : LaneState) (stage : Stage) : State :=
  { stocked with records := [board stage (.lane .lane0)] }.modCtl .lane0 fun c => { c with state := x }

/-- A segment of 100 mm at 100 mm/s with the bead valve. -/
def segment : Segment := ⟨1, 0, .bead, 1000, 100, 60, [1]⟩

/-- Lane 0 SPRAYING board 9 with one segment loaded and the sequencer in a phase whose timer is due. -/
def inPhase (x : SeqState) : State :=
  (inLane .spraying .spraying).modPath .lane0 fun pe => { pe with
    state := .opened, slot := some 0, queue := [segment], seq := x, executing := some 1, phaseTimer := some 0#32 }

/-- A board the gate waits for, ready and past its deadline. -/
def waiter : Waiting := ⟨9, 0#32, some 0#32, false, true⟩

/-- Board 9 HELD in the hold table, wet, its escalation due. -/
def held : State :=
  { stocked with
    records := [{ board .held .hold with reasons := (emptySet 20).set Reason.tempStale.idx true }]
    holds := [⟨9, .exitRack, 0#32, true, some 0#32, .pending⟩] }

/-- The frame of a command kind. -/
def frame (kind : Byte) (payload : List Byte) : Frame := ⟨kind, 1#8, payload⟩

/-! ### Worked examples -/

/-- The published check value of this CRC (polynomial 0x1021, initial 0xFFFF) for the digits 1 to 9. -/
theorem test_crc_check_value :
    crc16 [0x31#8, 0x32#8, 0x33#8, 0x34#8, 0x35#8, 0x36#8, 0x37#8, 0x38#8, 0x39#8] = 0x29B1#16 := by decide +kernel

/-- 11.8: films of 23.3 and 74.7 µm; 08 8.8: 50.2 µm; and the saturation of R134. -/
theorem test_film_examples :
    film 70000 3000 = 233 ∧ film 224000 3000 = 747 ∧ film 240800 4800 = 502 ∧ film (2 ^ 32 - 1) 1 = 65535 := by decide

/-- 10.9: the three zones, the hot zone and the cold zone; and the bounds of R161. -/
theorem test_dose_examples :
    doseIncrement (-183) = 268 ∧ doseIncrement 134 = 2462 ∧ doseIncrement 180 = 3482 ∧ doseIncrement 400 = 8000 ∧
      doseIncrement (-450) = 0 ∧ doseIncrement (-400) = 62 ∧ doseIncrement 299 = 7464 := by decide

/-- R154: the boundaries of the oven of 10.9. -/
theorem test_zone_boundaries :
    let y : Layout := ⟨50, [3000, 7500, 5000]⟩
    y.zoneOf 2999999 = 0 ∧ y.zoneOf 3000000 = 1 ∧ y.zoneOf 10499999 = 1 ∧ y.zoneOf 10500000 = 2 ∧
      y.zoneOf 99999999 = 2 := by decide

/-- R155: a temperature of −10.0 °C, high byte first. -/
theorem test_signed_temperature : int16At [0x3C#8, 0#8, 0xFF#8, 0x9C#8] 2 = -100 := by decide

/-- Table 1.4: rows told apart by KIND, section and action. -/
theorem test_rows_of_frames :
    commandOf .line (frame 0x21#8 [0#8, 6#8]) = .readRecipeSummary .line 1#8 [0#8, 6#8] ∧
    commandOf .line (frame 0x21#8 [0#8, 10#8]) = .readFeatureMap .line 1#8 [0#8, 10#8] ∧
    commandOf .bench (frame 0x60#8 [0#8, 0#8, 0#8, 9#8, 3#8]) = .disposeRecure .bench 1#8 [0#8, 0#8, 0#8, 9#8, 3#8] ∧
    commandOf .bench (frame 0x70#8 []) = .badKindCommand .bench 0x70#8 1#8 [] := by decide

/-! ### WellFormed refuses -/

/-- R1: no frame carries 201 payload bytes. -/
theorem test_overlong_payload_is_ill_formed :
    (Instr.ackEvents .line 0#8 (List.replicate 201 1#8)).wellFormed = false := by decide +kernel

/-- A SUMMARY row must carry section 6. -/
theorem test_summary_of_another_section_is_ill_formed :
    (Instr.readRecipeSummary .line 0#8 [0#8, 3#8]).wellFormed = false := by decide

/-- BAD_KIND_COMMAND must carry an unknown KIND. -/
theorem test_bad_kind_of_known_kind_is_ill_formed :
    (Instr.badKindCommand .line 0x01#8 0#8 []).wellFormed = false := by decide

/-- R39: a serial is 1 to 2³² − 1. -/
theorem test_serials_out_of_range_are_ill_formed :
    (Instr.escalationDeadlineExpiry 0).wellFormed = false ∧
      (Instr.sprayEndTimeOld (2 ^ 32)).wellFormed = false := by decide

/-! ### Witnesses: the step, frames and events -/

theorem witness_EmptyQueueRunsDueWorkElseTick :
    State.reset.pending = [] ∧ State.reset.ownCommand = none ∧
      { State.reset with clock := 1000#32 }.ownCommand = some .doseTick := by decide

theorem witness_CommandSpellsItsFrame : (frame 0x04#8 (List.replicate 200 0#8)).payload.length ≤ 200 := by
  show (List.replicate 200 0#8).length ≤ 200
  rw [List.length_replicate]

/-- A Line Port receive queue of four frames. -/
def fullQueue : State := State.reset.modPort .line fun ps => { ps with rx := List.replicate 4 (frame 1#8 []) }

theorem witness_ReceiverReadsBackEveryFrame :
    (State.reset.port .line).rxState = .hunt ∧ (State.reset.port .line).rx.length < 4 ∧
      (fullQueue.port .line).rxState = .hunt ∧ 4 ≤ (fullQueue.port .line).rx.length := by decide

/-- The receiver one byte before the end of IDENTIFY's frame. -/
def lastByte (high : Byte) : State := State.reset.modPort .line fun ps =>
  { ps with rxState := .checkLow 0#8 1#8 1#8 [] high, rxGap := some 0#32, tx := [⟨true, frame 0x70#8 []⟩] }

theorem witness_FramesEnterAndLeaveTheQueues :
    let high := (bytes16 (frameCheck 0#8 1#8 1#8 []).toNat).headD 0#8
    let low := (bytes16 (frameCheck 0#8 1#8 1#8 []).toNat).getLastD 0#8
    (State.reset.port .line).rxState = .hunt ∧
      ((lastByte high).port .line).rxState = .checkLow 0#8 1#8 1#8 [] high ∧
      (frameCheck 0#8 1#8 1#8 []).toNat = high.toNat * 256 + low.toNat ∧
      ((lastByte high).port .line).tx = [⟨true, frame 0x70#8 []⟩] := by decide +kernel

theorem witness_AbandonedFrameReportsCause :
    ((lastByte 0#8).port .line).rxGap = some 0#32 ∧ reached (lastByte 0#8).clock 0#32 = true ∧
      ((lastByte 0#8).port .line).rxState = .checkLow 0#8 1#8 1#8 [] 0#8 ∧
      (frameCheck 0#8 1#8 1#8 []).toNat ≠ (0#8).toNat * 256 + (0#8).toNat ∧
      ((lastByte 0#8).port .line).rxState ≠ .hunt ∧
      ((State.reset.modPort .line fun ps => { ps with rxState := .headerLen }).port .line).rxState = .headerLen ∧
      200 < (201#8 : Byte).toNat := by decide +kernel

theorem witness_RefusedCommandChangesNothing :
    let s := waiting .line (frame 0x70#8 []) State.reset
    s.Ready .line (frame 0x70#8 []) [] ∧ ∃ t, exec (commandOf .line (frame 0x70#8 [])) s = .next t :=
  ⟨waiting_ready _ _ _, _, rfl⟩

theorem witness_ChecksRefuseInOrder :
    (waiting .line (frame 0x70#8 []) State.reset).Ready .line (frame 0x70#8 []) [] ∧
      (waiting .bench (frame 0x10#8 []) State.reset).Ready .bench (frame 0x10#8 []) [] ∧
      (waiting .line (frame 0x60#8 []) State.reset).Ready .line (frame 0x60#8 []) [] ∧
      (waiting .line (frame 0x60#8 []) State.reset).settings.remoteDisposition = false :=
  ⟨waiting_ready _ _ _, waiting_ready _ _ _, waiting_ready _ _ _, rfl⟩

/-- R4 checks 3 and 4: lengths refused, a count refused within the length step, and common fields that fail (01 table 1.4,
R8, R24, R153, R174); every payload can stand in a frame that is ready. -/
theorem witness_ChecksRefuseInOrder_lengths_and_fields :
    lengthStep 0x04#8 [] = some .badLength ∧ lengthStep 0x51#8 (List.replicate 15 0#8) = some .badLength ∧
      lengthStep 0x12#8 [7#8, 0#8, 1#8, 0#8, 100#8] = some .badValue ∧
      lengthStep 0x12#8 [2#8, 0#8, 1#8, 0#8, 100#8] = some .badLength ∧
      lengthStep 0x20#8 [0#8, 2#8, 13#8] = some .badValue ∧ lengthStep 0x20#8 [0#8, 3#8, 1#8] = some .badLength ∧
      lengthStep 0x60#8 [0#8, 0#8, 0#8, 9#8, 4#8] = some .badValue ∧
      lengthStep 0x60#8 (bytes32 9 ++ [2#8, 0#8, 1#8]) = some .badLength ∧
      (lengthStep 0x04#8 [20#8] = none ∧ CommonFieldFails 0x04#8 [20#8]) ∧
      (lengthStep 0x30#8 [2#8] = none ∧ CommonFieldFails 0x30#8 [2#8]) ∧
      (lengthStep 0x60#8 (bytes32 0 ++ [1#8]) = none ∧ CommonFieldFails 0x60#8 (bytes32 0 ++ [1#8])) ∧
      ∀ (p : Port) (f : Frame), (waiting p f State.reset).Ready p f [] := by
  refine ⟨by decide, by decide, by decide, by decide, by decide, by decide, by decide, by decide, ⟨by decide, ?_⟩,
    ⟨by decide, ?_⟩, ⟨by decide, ?_⟩, fun _ _ => waiting_ready _ _ _⟩
  · exact ⟨20#8, by decide, .inr (by decide)⟩
  · show 1 < (2#8 : Byte).toNat; decide
  · exact .inl (by decide)

theorem witness_IdentificationAndStatusReplies :
    (waiting .bench (frame 0x01#8 []) State.reset).Ready .bench (frame 0x01#8 []) [] ∧
      (waiting .line (frame 0x02#8 []) State.reset).Ready .line (frame 0x02#8 []) [] :=
  ⟨waiting_ready _ _ _, waiting_ready _ _ _⟩

/-- Kinds 1 and 19, the ends of the range, listed twice. -/
def kinds : List (Fin 19) := [0, 18, 0]

theorem witness_EventCommandsReportClearAndMask :
    let payload := kinds.map fun k => toByte (k.val + 1)
    kinds ≠ [] ∧ kinds.length ≤ 19 ∧
      (waiting .line (frame 0x03#8 []) State.reset).Ready .line (frame 0x03#8 []) [] ∧
      (waiting .line (frame 0x03#8 [19#8]) State.reset).Ready .line (frame 0x03#8 [19#8]) [] ∧
      (waiting .line (frame 0x04#8 payload) State.reset).Ready .line (frame 0x04#8 payload) [] ∧
      (waiting .bench (frame 0x05#8 payload) State.reset).Ready .bench (frame 0x05#8 payload) [] :=
  ⟨by decide, by decide, waiting_ready _ _ _, waiting_ready _ _ _, waiting_ready _ _ _, waiting_ready _ _ _⟩

/-! ### Witnesses: line settings, resets, recipes -/

theorem witness_SetLineConfigReplacesSettings :
    let payload := bytes16 60000 ++ bytes16 0 ++ bytes16 500 ++ bytes16 2000 ++ [flagByte true]
    (60000 < 65536 ∧ 0 < 65536 ∧ 500 < 65536 ∧ 2000 < 65536) ∧
      (waiting .line (frame 0x10#8 payload) State.reset).Ready .line (frame 0x10#8 payload) [] :=
  ⟨by decide, waiting_ready _ _ _⟩

theorem witness_LineResetClearsLineAndKeepsSettings :
    (waiting .line (frame 0x33#8 []) held).Ready .line (frame 0x33#8 []) [] := waiting_ready _ _ _

theorem witness_WriteRecipeStoresSection :
    (∀ c : SectionCode, c ∈ [.material, .areas, .features, .cure, .timing] →
      (recipe.sectionBytes c).isSome = true) ∧
      SectionCode.material.InRange recipe ∧ SectionCode.areas.InRange recipe ∧ SectionCode.features.InRange recipe ∧
      SectionCode.cure.InRange recipe ∧ SectionCode.timing.InRange recipe ∧
      ∀ payload, (waiting .line (frame 0x20#8 payload) stocked).Ready .line (frame 0x20#8 payload) [] := by
  refine ⟨by decide, ?_, ?_, ?_, ?_, ?_, fun _ => waiting_ready _ _ _⟩
  · intro m h; cases h; decide
  · intro a h; cases h; decide
  · intro cs h; cases h; decide
  · intro x h; cases h; decide
  · intro x h; cases h; decide

theorem witness_WriteRecipeStoresSection_refusals :
    let low := 0#8 :: 1#8 :: (bytes16 0 ++ bytes16 1 ++ [1#8])
    let noSlot := 8#8 :: 1#8 :: (bytes16 1 ++ bytes16 1 ++ [1#8])
    (lengthStep 0x20#8 low = none ∧ ¬ SectionBytesInRange low) ∧
      (lengthStep 0x20#8 noSlot = none ∧ 7 < (byteAt noSlot 0).toNat) ∧
      ∀ d, (waiting .line (frame 0x20#8 d) stocked).Ready .line (frame 0x20#8 d) [] :=
  ⟨⟨by decide, fun h => absurd h.1 (by decide)⟩, by decide, fun _ => waiting_ready _ _ _⟩

/-- The store CLEARING. -/
def clearingStore : State := { stocked with store := { stocked.store with clearTimer := some 0#32 } }

theorem witness_ReadRecipeRepliesStore :
    (∀ x : Byte, (waiting .line (frame 0x21#8 [0#8, x]) stocked).Ready .line (frame 0x21#8 [0#8, x]) []) ∧
      (∀ x : Byte, (waiting .line (frame 0x21#8 [0#8, x]) stocked).store.clearTimer = none) ∧
      (∀ d, (waiting .line (frame 0x21#8 d) clearingStore).Ready .line (frame 0x21#8 d) [] ∧
        (waiting .line (frame 0x21#8 d) clearingStore).store.clearTimer.isSome = true) ∧
      (7 < (8#8 : Byte).toNat ∧ (0#8 : Byte).toNat < 1 ∧ 10 < (11#8 : Byte).toNat ∧ (7#8 : Byte).toNat ≤ 7) :=
  ⟨fun _ => waiting_ready _ _ _, fun _ => rfl, fun _ => ⟨waiting_ready _ _ _, rfl⟩, by decide⟩

theorem witness_AliasCommandsKeepTheTable :
    (waiting .line (frame 0x22#8 (bytes16 7 ++ [7#8])) stocked).Ready .line (frame 0x22#8 (bytes16 7 ++ [7#8])) [] ∧
      (waiting .line (frame 0x22#8 (bytes16 65535 ++ [7#8])) stocked).Ready .line
        (frame 0x22#8 (bytes16 65535 ++ [7#8])) [] ∧
      (waiting .line (frame 0x23#8 (bytes16 7)) stocked).Ready .line (frame 0x23#8 (bytes16 7)) [] ∧
      stocked.store.clearTimer = none ∧ (stocked.store.aliasTable.map (·.1)).Nodup ∧
      ((7, 0) ∈ stocked.store.aliasTable ∧ (∀ old, (65535, old) ∉ stocked.store.aliasTable)) ∧
      (∀ k d, (waiting .line (frame k d) clearingStore).Ready .line (frame k d) [] ∧
        (waiting .line (frame k d) clearingStore).store.clearTimer.isSome = true) :=
  ⟨waiting_ready _ _ _, waiting_ready _ _ _, waiting_ready _ _ _, rfl, by decide, by decide,
    fun _ _ => ⟨waiting_ready _ _ _, rfl⟩⟩

theorem witness_WriteFeatureMapReplacesRun :
    let es : List MapEntry := [.checkSlot 1 false]
    let payload := 0#8 :: toByte 254 :: es.flatMap MapEntry.bytes
    let s := waiting .line (frame 0x24#8 payload) stocked
    s.Ready .line (frame 0x24#8 payload) [] ∧ 254 + es.length ≤ 255 ∧ s.store.clearTimer = none ∧
      s.slotInUse 0 = false ∧
      ∀ e ∈ es, e ≠ .endMark ∧ ∀ k f, e = .checkSlot k f → k.val < (s.store.slots[(0 : Fin 8)]).featuresD.length := by
  refine ⟨waiting_ready _ _ _, by decide, rfl, by decide, ?_⟩
  intro e he
  simp only [List.mem_singleton] at he
  subst he
  exact ⟨by decide, fun k f h => by cases h; decide⟩

theorem witness_WriteFeatureMapReplacesRun_refusals :
    let past := [0#8, 254#8, 0#8, 0#8, 0#8, 0#8]
    let unknown := [0#8, 0#8, 2#8, 0#8]
    (lengthStep 0x24#8 past = none ∧ 254 < (byteAt past 1).toNat + (past.length - 2) / 2 - 1) ∧
      (lengthStep 0x24#8 unknown = none ∧ ∃ i : Fin 8, (byteAt unknown 0).toNat = i.val ∧
        ∃ j < (unknown.length - 2) / 2, MapEntryFails (stocked.store.slots[i]).featuresD.length unknown j) ∧
      clearingStore.store.clearTimer.isSome = true ∧ held.slotInUse 0 = true ∧
      ∀ d, (waiting .line (frame 0x24#8 d) stocked).Ready .line (frame 0x24#8 d) [] :=
  ⟨by decide, ⟨by decide, 0, by decide, 0, by decide, .inr (.inr (.inr (by decide)))⟩, rfl, by decide,
    fun _ => waiting_ready _ _ _⟩

theorem witness_ClearRecipesThenStoreIsEmpty :
    let s : State := { stocked with store := { stocked.store with clearTimer := some 0#32 } }
    (waiting .line (frame 0x25#8 []) stocked).Ready .line (frame 0x25#8 []) [] ∧
      s.store.clearTimer = some 0#32 ∧ reached s.clock 0#32 = true := ⟨waiting_ready _ _ _, rfl, by decide⟩

theorem witness_RecipeInUseNeverChanges :
    held.ClearingFindsNoReference ∧ held.pending.head? ≠ some .powerOn ∧ (∃ t, step held = .next t) ∧
      held.slotInUse 0 = true := by
  refine ⟨?_, by decide, ?_, by decide⟩
  · intro h; exact absurd h (by decide)
  · exact ⟨_, rfl⟩

/-! ### Witnesses: boards and lanes -/

theorem witness_AnnounceAndWithdrawABoard :
    (∀ l, (waiting .line (frame 0x40#8 (toByte (laneNumber l) :: (bytes32 1 ++ bytes16 7))) stocked).Ready .line
        (frame 0x40#8 (toByte (laneNumber l) :: (bytes32 1 ++ bytes16 7))) []) ∧
      (waiting .line (frame 0x41#8 (bytes32 (2 ^ 32 - 1))) stocked).Ready .line
        (frame 0x41#8 (bytes32 (2 ^ 32 - 1))) [] :=
  ⟨fun _ => waiting_ready _ _ _, waiting_ready _ _ _⟩

theorem witness_GetBoardRepliesRecord :
    (waiting .bench (frame 0x06#8 (bytes32 9)) held).Ready .bench (frame 0x06#8 (bytes32 9)) [] :=
  waiting_ready _ _ _

theorem witness_LaneEnableAndDisableByLaneState :
    (waiting .line (frame 0x30#8 [0#8]) stocked).Ready .line (frame 0x30#8 [0#8]) [] ∧
      (waiting .bench (frame 0x31#8 [1#8]) stocked).Ready .bench (frame 0x31#8 [1#8]) [] ∧
      (∀ l, (stocked.lane l).ctl.disablePending = false) ∧
      ∀ l n, (stocked.lane l).station.boardSlot ≠ some (.arrived n) :=
  ⟨waiting_ready _ _ _, waiting_ready _ _ _, fun l => by cases l <;> rfl, fun l n => by cases l <;> exact nofun⟩

theorem witness_LaneSettingsAndNozzleCount :
    let payload := 0#8 :: 250#8 :: 250#8 :: 0#8 :: 0#8 :: 0#8 :: 250#8 :: 60#8 :: 1#8 :: 64#8 :: bytes16 65535
    (waiting .line (frame 0x11#8 payload) stocked).Ready .line (frame 0x11#8 payload) [] ∧
      (waiting .line (frame 0x34#8 [1#8]) stocked).Ready .line (frame 0x34#8 [1#8]) [] :=
  ⟨waiting_ready _ _ _, waiting_ready _ _ _⟩

theorem witness_LaneResetClearsLaneAndHoldsBoard :
    let s := waiting .line (frame 0x32#8 [0#8]) (inLane .armed .armed)
    s.Ready .line (frame 0x32#8 [0#8]) [] ∧ (s.board .lane0).isSome = true := ⟨waiting_ready _ _ _, by decide⟩

theorem witness_EjectTimeoutFaultsLane :
    let s := stocked.modCtl .lane1 fun c => { c with state := .ejecting, ejectTimer := some 0#32 }
    (s.lane .lane1).ctl.ejectTimer = some 0#32 ∧ reached s.clock 0#32 = true ∧
      (s.lane .lane1).ctl.state = .ejecting := by decide

/-- Lane 0 of state `s` with one byte in the START, END and INSPECT assemblers and four in BOARD's. -/
def halfRecords (s : State) : State := s.modStation .lane0 fun st => { st with
  startAsm := ⟨[0#8], some 0#32⟩, endAsm := ⟨[0#8], some 0#32⟩, inspectAsm := ⟨[5#8], some 0#32⟩
  boardAsm := ⟨1#8 :: (bytes32 9).take 3, some 0#32⟩ }

theorem witness_PartialRecordsAreAssembledOrLost :
    (State.reset.lane .lane0).station = StationPort.reset ∧
      ((halfRecords stocked).lane .lane0).station.startAsm.gap = some 0#32 ∧
      ((halfRecords stocked).lane .lane0).station.endAsm.gap = some 0#32 ∧
      ((halfRecords stocked).lane .lane0).station.inspectAsm.gap = some 0#32 ∧
      ((halfRecords stocked).lane .lane0).station.boardAsm.gap = some 0#32 ∧
      reached (halfRecords stocked).clock 0#32 = true ∧ ([1#8] ++ [0#8]).head? = some 1#8 := by decide

/-- Lane 0 in a lane state, a record for board 9 announced, with an announce queue. -/
def arriving (x : LaneState) (q : List QueueEntry) : State :=
  halfRecords ({ stocked with records := [board .announced .announceQueue] }.modCtl .lane0 fun c =>
    { c with state := x, queue := q })

theorem witness_ArrivedIsMatchedByLaneState :
    9 < 2 ^ 32 ∧ ((arriving .idle []).lane .lane0).station.boardAsm.bytes = 1#8 :: (bytes32 9).take 3 ∧
      ((arriving .idle []).lane .lane0).station.boardSlot = none ∧
      ((arriving .off []).lane .lane0).ctl.state = .off ∧
      ((arriving .fault []).lane .lane0).ctl.state ≠ .off ∧ ((arriving .fault []).lane .lane0).ctl.state ≠ .idle ∧
      (∀ e ∈ ((arriving .idle []).lane .lane0).ctl.queue, e.serial ≠ 9) ∧
      ((arriving .idle [⟨9, false⟩]).record? 9).isSome = true ∧
      ((arriving .idle [⟨9, false⟩]).lane .lane0).ctl.queue.head?.map (·.serial) = some 9 ∧
      (∃ e ∈ ((arriving .idle [⟨8, false⟩, ⟨9, false⟩]).lane .lane0).ctl.queue, e.serial = 9) ∧
      ((arriving .idle [⟨8, false⟩, ⟨9, false⟩]).lane .lane0).ctl.queue.head?.map (·.serial) ≠ some 9 ∧
      (((arriving .fault []).modStation .lane0 fun st => { st with
        boardSlot := some .cleared }).lane .lane0).station.boardSlot.isSome = true := by decide

theorem witness_ClearedEndsEject :
    let s := stocked.modCtl .lane0 fun c => { c with state := .ejecting, ejectTimer := some 0#32 }
    (2#8 : Byte) ≠ 1#8 ∧ (s.lane .lane0).station.boardAsm.bytes = [] ∧ (s.lane .lane0).station.boardSlot = none ∧
      (s.lane .lane0).ctl.state = .ejecting ∧
      ((s.modStation .lane0 fun st => { st with boardSlot := some (.arrived 9) }).lane .lane0).station.boardSlot =
        some (.arrived 9) ∧
      ((s.modStation .lane0 fun st => { st with boardSlot := some (.arrived 9) }).lane
        .lane0).station.boardSlot.isSome = true := by decide

/-! ### Witnesses: checking, paths, strobes, metering -/

/-- Lane 0 CHECKING board 9 with its timers due, `q` waiting and half a reading in the assembler. -/
def checking (ready : Bool) (q : List Reading) : State :=
  halfRecords (((inLane .checking .checking).modChecker .lane0 fun m => { m with
    checkTimer := some 0#32, paceTimer := some 0#32, ready := ready }).modStation .lane0 fun st => { st with
      inspectQueue := q })

theorem witness_ReadingIsTakenByMapEntry :
    let rd : Reading := ⟨5, .present⟩
    ((checking true []).lane .lane0).station.inspectAsm.bytes = [5#8] ∧
      ((checking true []).board .lane0).isSome = true ∧ ((checking true []).lane .lane0).checker.ready = true ∧
      ((checking false []).lane .lane0).checker.ready = false ∧
      4 ≤ ((checking false (List.replicate 4 rd)).lane .lane0).station.inspectQueue.length ∧
      ((inLane .armed .armed).lane .lane0).ctl.state ≠ .checking ∧
      ((checking false [rd]).lane .lane0).checker.paceTimer = some 0#32 ∧
      reached (checking false [rd]).clock 0#32 = true ∧
      ((checking false [rd]).lane .lane0).station.inspectQueue = rd :: [] := by decide

theorem witness_CheckEndRulesTheBoard :
    let s := checking true []
    let passed : State := { s with records := [{ board .checking (.lane .lane0) with
      verdicts := Vector.replicate 16 .present }] }
    (s.lane .lane0).checker.checkTimer = some 0#32 ∧ reached s.clock 0#32 = true ∧
      (s.lane .lane0).ctl.state = .checking ∧ s.board .lane0 = some (board .checking (.lane .lane0)) ∧
      ((s.store.slots[(0 : Fin 8)]).featuresD[(0 : Nat)]? = some .critical) ∧
      (∀ k : Fin 16, (decide ((passed.store.slots[(0 : Fin 8)]).featuresD[k.val]? = some .critical) &&
        decide ((Vector.replicate 16 Verdict.present)[k] ≠ .present)) = false) ∧
      ((passed.modPath .lane0 fun pe => { pe with state := .complete, slot := some 1 }).lane .lane0).path.slot ≠
        some 0 := by decide

theorem witness_HoldRequestIsSettledByClass :
    (inLane .blocked .flashing).record? 9 = some (board .flashing (.lane .lane0)) ∧
      ((inLane .blocked .flashing).lane .lane0).ctl.state = .blocked ∧
      (inLane .blocked .flashing).board .lane0 = some (board .flashing (.lane .lane0)) := by decide

/-- State `s` with the same recipe in slot 1 and alias 65535 on it. -/
def twoRecipes (s : State) : State := { s with store := { s.store with
  slots := s.store.slots.set 1 recipe, aliasTable := s.store.aliasTable ++ [(65535, 1)] } }

/-- Every outcome of PATH_BEGIN is met: BUSY, a path that is not EMPTY, an unknown alias, a slot that is not READY, an ARMED
lane whose board has that slot, one whose board has another, one without a board, and a lane in another state. -/
theorem witness_PathBeginOpensThePath :
    (∀ (a : Nat) (s : State), (waiting .line (frame 0x50#8 (0#8 :: bytes16 a)) s).Ready .line
      (frame 0x50#8 (0#8 :: bytes16 a)) []) ∧
      clearingStore.store.clearTimer.isSome = true ∧
      ((inPhase .closed).lane .lane0).path.state ≠ .empty ∧
      (stocked.store.aliasTable.find? fun e => decide (e.1 = 65535)) = none ∧
      (stocked.store.slots[(1 : Fin 8)]).state ≠ .ready ∧
      (let s := twoRecipes (inLane .armed .armed)
       (s.store.aliasTable.find? fun e => decide (e.1 = 7)) = some (7, 0) ∧
         (s.store.aliasTable.find? fun e => decide (e.1 = 65535)) = some (65535, 1) ∧
         (s.store.slots[(0 : Fin 8)]).state = .ready ∧ (s.store.slots[(1 : Fin 8)]).state = .ready ∧
         (s.lane .lane0).ctl.state = .armed ∧ (s.lane .lane0).path.state = .empty ∧
         s.board .lane0 = some (board .armed (.lane .lane0)) ∧ (board .armed (.lane .lane0)).slot = 0) ∧
      ({ inLane .armed .armed with records := [] }.board .lane0 = none) ∧
      ((stocked.lane .lane0).ctl.state ≠ .armed ∧ (stocked.lane .lane0).ctl.state ≠ .spraying) := by
  refine ⟨fun _ _ => waiting_ready _ _ _, ?_⟩
  decide

/-- Lane 0 in OFF with an OPEN path on slot 0 that holds `q`. -/
def openPath (q : List Segment) : State := stocked.modPath .lane0 fun pe => { pe with
  state := .opened, slot := some 0, queue := q }

theorem witness_SegmentsJoinTheQueue :
    let payload := 0#8 :: [segment].flatMap Segment.bytes
    let s := waiting .line (frame 0x51#8 payload) (openPath [])
    s.Ready .line (frame 0x51#8 payload) [] ∧ (stocked.lane .lane0).path.state ≠ .opened ∧
      (s.lane .lane0).path.state = .opened ∧ (s.lane .lane0).path.slot = some 0 ∧ (s.lane .lane0).path.Numbered ∧
      [segment].map (·.number) = (List.range 1).map (fun j => 0 + 1 + j) ∧
      ∀ x ∈ [segment], x.Fits (s.store.slots[(0 : Fin 8)]) := by
  refine ⟨waiting_ready _ _ _, by decide, rfl, rfl, ⟨by decide, by decide, by decide, by decide⟩, by decide, ?_⟩
  intro x hx
  simp only [List.mem_singleton] at hx
  subst hx
  unfold Segment.Fits
  decide

/-- `n` loaded segments, numbered 1 to `n`. -/
def loaded (n : Nat) : List Segment := (List.range n).map fun i => { Tests.segment with number := i + 1 }

/-- The FULL boundary: 127 records loaded and two more, numbered on to 129, sent; and at a full queue a record numbered out
of its place, or with a speed of 0. -/
theorem witness_SegmentsJoinTheQueue_full_and_refused :
    let two : List Segment := [{ Tests.segment with number := 128 }, { Tests.segment with number := 129 }]
    let still := { Tests.segment with number := 129, speed := 0 }
    (∀ d s, (waiting .line (frame 0x51#8 d) s).Ready .line (frame 0x51#8 d) []) ∧
      ((openPath (loaded 127)).lane .lane0).path.Numbered ∧ ((openPath (loaded 128)).lane .lane0).path.Numbered ∧
      two.map (·.number) = (List.range two.length).map (fun j => 127 + 1 + j) ∧ 128 < 127 + two.length ∧
      (∀ x ∈ two, x.Fits recipe) ∧
      (Segment.bytes still).length = 15 ∧ SegmentBytesFail recipe (128 + 1 + 0) (Segment.bytes still) ∧
      SegmentBytesFail recipe (128 + 1 + 0) (Segment.bytes Tests.segment) := by
  refine ⟨fun _ _ => waiting_ready _ _ _, ⟨by decide, by decide, by decide +kernel, by decide⟩,
    ⟨by decide, by decide, by decide +kernel, by decide⟩, by decide, by decide, ?_, by decide, ?_, ?_⟩
  · unfold Segment.Fits; decide
  · exact .inr (.inr (.inr (.inr (.inl (by decide)))))
  · exact .inl (by decide)

theorem witness_PathEndKeepAndDiscard :
    (waiting .line (frame 0x52#8 [0#8]) (openPath [segment])).Ready .line (frame 0x52#8 [0#8]) [] ∧
      (waiting .line (frame 0x53#8 [0#8, 1#8]) (openPath [])).Ready .line (frame 0x53#8 [0#8, 1#8]) [] ∧
      (waiting .line (frame 0x54#8 [0#8]) (openPath [])).Ready .line (frame 0x54#8 [0#8]) [] ∧
      ((openPath [segment]).lane .lane0).path.queue.getLast? = some segment ∧
      ((openPath []).lane .lane0).path.queue = [] :=
  ⟨waiting_ready _ _ _, waiting_ready _ _ _, waiting_ready _ _ _, rfl, rfl⟩

theorem witness_StartStrobeIsJudgedByCursor :
    let s := halfRecords ((inLane .armed .armed).modPath .lane0 fun pe => { pe with
      state := .complete, slot := some 0, queue := [segment], last := some 1 })
    (s.lane .lane0).station.startAsm.bytes = [0#8] ∧ s.board .lane0 = some (board .armed (.lane .lane0)) ∧
      (s.lane .lane0).ctl.state = .armed ∧ (s.lane .lane0).station.startSlot = none ∧
      (s.lane .lane0).path.seq = .closed ∧ (s.lane .lane0).path.cursor ≤ 1 ∧ (s.lane .lane0).path.last = some 1 ∧
      (board .armed (.lane .lane0)).passAreas[segment.area] = true ∧
      (recipe.featuresD[1]? = some .suppress ∧ (board .armed (.lane .lane0)).verdicts[(1 : Fin 16)] ≠ .present) ∧
      (((inPhase .opened).modStation .lane0 fun st => { st with startSlot := some 2 }).lane
        .lane0).station.startSlot.isSome = true ∧ ((inPhase .opened).lane .lane0).path.seq ≠ .closed := by decide

theorem witness_SequencerPhasesFollowTheSettings (x : SeqState) (h : x ≠ .closed) :
    x ≠ .closed ∧ ((inPhase x).lane .lane0).path.phaseTimer = some 0#32 ∧ reached (inPhase x).clock 0#32 = true ∧
      ((inPhase x).lane .lane0).ctl.state = .spraying ∧
      (inPhase x).board .lane0 = some (board .spraying (.lane .lane0)) ∧
      ((inPhase x).lane .lane0).path.executing = some segment.number ∧
      ((inPhase x).lane .lane0).path.queue.find? (fun y => decide (y.number = segment.number)) = some segment ∧
      ((inPhase x).lane .lane0).path.seq = x := by cases x <;> first | contradiction | decide

theorem witness_EndStrobeCutsTheOpenPhase :
    let s := (inPhase .opened).modStation .lane0 fun st => { st with endAsm := ⟨[0#8], none⟩ }
    (s.lane .lane0).station.endAsm.bytes = [0#8] ∧ (s.lane .lane0).station.endSlot = none ∧
      (s.lane .lane0).ctl.state = .spraying ∧
      (s.lane .lane0).path.executing = some ((0#8).toNat * 256 + (1#8).toNat) ∧
      (s.lane .lane0).path.queue.find? (fun y => decide (y.number = (0#8).toNat * 256 + (1#8).toNat)) = some segment ∧
      (s.lane .lane0).path.seq = .opened := by decide

theorem witness_CompletionAdvancesCursorAndRaisesQueueEvents :
    ((inPhase .closing).lane .lane0).path.cursor < 65536 ∧
      ((inPhase .closing).lane .lane0).path.executing = some segment.number ∧
      ((inPhase .closing).lane .lane0).path.queue.find? (fun y => decide (y.number = segment.number)) =
        some segment := by decide

theorem witness_SprayEndJudgesFilmAndSettlesThePath :
    let s := (inLane .spraying .spraying).modPath .lane0 fun pe => { pe with gapTimer := some 0#32 }
    s.board .lane0 = some (board .spraying (.lane .lane0)) ∧ (s.records.map (·.serial)).Nodup ∧
      (s.store.slots[(0 : Fin 8)]).timingD.flashOff ≤ 1800 ∧ (s.lane .lane0).path.gapTimer = some 0#32 ∧
      reached s.clock 0#32 = true ∧ (s.lane .lane0).ctl.state = .spraying := by decide

theorem witness_FlowPulseGoesToOneCount :
    ((inPhase .opened).lane .lane0).ctl.state = .spraying ∧ ((inPhase .opened).lane .lane0).path.seq = .opened ∧
      (inLane .exitWait .flashing).board .lane0 = some (board .flashing (.lane .lane0)) ∧
      ((inLane .exitWait .flashing).records.map (·.serial)).Nodup ∧
      ((inLane .exitWait .flashing).lane .lane0).ctl.state = .exitWait ∧
      (stocked.lane .lane0).ctl.state ∈ [LaneState.off, .idle, .transfer, .ejecting, .blocked, .fault] := by decide

theorem witness_CompletionIsMeteredExactly :
    (inPhase .closing).board .lane0 = some (board .spraying (.lane .lane0)) := by decide

/-! ### Witnesses: gate, oven, holds -/

/-- Board 9 waiting at Lane 0's exit and board 8 at the return station. -/
def atGate (presence : Bool) : State :=
  { inLane .exitWait .flashing with
    gate := { Gate.reset with
      exit0 := some waiter, station := some { waiter with serial := 8 }, presence := presence, ovenAccept := true }
    records := [board .flashing (.lane .lane0), { board .flashing .returnStation with serial := 8 }] }

theorem witness_WaitingBoardsBecomeEligibleOrExpire :
    let s := atGate false
    s.gate.exit .lane0 = some waiter ∧ waiter.flashTimer = true ∧ reached s.clock waiter.flashReady = true ∧
      waiter.deadline = some 0#32 ∧ s.gate.station = some { waiter with serial := 8 } ∧
      s.gate.grant ≠ some .returnStation ∧ s.gate.presence = false ∧ (atGate true).gate.presence = true ∧
      ((s.addReason 8 .wetExpired).record? 8).isSome = true ∧ State.reset.gate.station = none ∧
      true ≠ State.reset.gate.presence := by decide

theorem witness_GrantGoesToTheEarliestDeadline :
    let w := { waiter with eligible := true }
    let s : State := { atGate false with gate := { (atGate false).gate with exit0 := some w } }
    (s.gate.grant = none ∧ s.gate.ovenAccept = true ∧ s.oven.queue.length < 12 ∧
      ∀ e, s.oven.queue.getLast? = some e → s.settings.entrySpacing * 1000 ≤ e.position) ∧
      s.Claims (.lane .lane0) w ∧ (∀ src w', s.Claims src w' → s.rank (.lane .lane0) w ≤ s.rank src w') ∧
      ¬ State.reset.gate.ovenAccept = true := by
  refine ⟨⟨rfl, rfl, by decide, nofun⟩, ⟨rfl, rfl⟩, ?_, by decide⟩
  intro src w' h
  exact Nat.zero_le _

theorem witness_OvenCommandsSetAcceptAndLayout :
    let payload := toByte 2 :: (bytes16 1 ++ [100, 20000].flatMap bytes16)
    (waiting .line (frame 0x13#8 [1#8]) stocked).Ready .line (frame 0x13#8 [1#8]) [] ∧
      (waiting .line (frame 0x12#8 payload) stocked).Ready .line (frame 0x12#8 payload) [] ∧
      (∀ x ∈ [100, 20000], x ≤ 65535) ∧ ¬ (1 = 0 ∨ ∃ x ∈ [100, 20000], x < 100 ∨ 20000 < x) ∧
      (∃ x ∈ [99, 20001], x < 100 ∨ 20000 < x) := ⟨waiting_ready _ _ _, waiting_ready _ _ _, by decide, by decide, by decide⟩

/-- The gate state with a grant out and its transfer timer due. -/
def granted (src : Source) : State :=
  { atGate true with gate := { (atGate true).gate with grant := some src, transferTimer := some 0#32 } }

theorem witness_TransferEndsByEntryOrTimeout :
    State.reset.gate.grant = none ∧ (granted (.lane .lane0)).gate.grant = some (.lane .lane0) ∧
      (granted (.lane .lane0)).board .lane0 = some (board .flashing (.lane .lane0)) ∧
      (granted .returnStation).gate.station = some { waiter with serial := 8 } ∧
      (granted .returnStation).gate.transferTimer = some 0#32 ∧ reached (granted .returnStation).clock 0#32 = true ∧
      (((granted .returnStation).addReason 8 .transferFault).record? 8).isSome = true := by decide

/-- An oven of two zones with board 9 in it at a position, and the sensor line four bytes into a record. -/
def inOven (position : Nat) : State :=
  { stocked with
    clock := 1000#32
    records := [board .curing .oven]
    oven := { State.reset.oven with
      layout := some ⟨50, [3000, 7500]⟩, queue := [⟨9, position⟩]
      sensorBytes := [0x3C#8, 5#8, 0#8, 0#8], sensorGap := some 0#32 } }

theorem witness_SensorRecordsUpdateZonesThatGoStale :
    State.reset.oven.sensorBytes = [] ∧ State.reset.oven.sensorBytes.length < 4 ∧
      (inOven 0).oven.sensorBytes = [0x3C#8, 5#8, 0#8, 0#8] ∧ (5#8 : Byte).toNat = (5 : Fin 6).val ∧
      6 ≤ (6#8 : Byte).toNat ∧ (inOven 0).oven.sensorGap = some 0#32 ∧
      reached (inOven 0).clock 0#32 = true := by decide

theorem witness_EncoderMovesAndTicksDoseTheBoards :
    State.reset.oven.layout = none ∧ (inOven 0).oven.layout = some ⟨50, [3000, 7500]⟩ ∧
      1 ≤ [3000, 7500].length ∧ [3000, 7500].length ≤ 6 ∧
      reached (inOven 0).clock (inOven 0).oven.doseNext = true ∧
      ((inOven 0).oven.queue.map (·.serial)).Nodup ∧
      reached { State.reset with clock := 1000#32 }.clock State.reset.oven.doseNext = true := by decide

theorem witness_ExitEventJudgesTheHead :
    State.reset.oven.queue = [] ∧ (inOven 0).oven.queue = [⟨9, 0⟩] ∧
      0 < (10500 - (inOven 0).settings.exitWindow) * 1000 ∧
      (10500 - (inOven 10350000).settings.exitWindow) * 1000 ≤ 10350000 ∧
      (inOven 10350000).record? 9 = some (board .curing .oven) := by decide

theorem witness_ReleaseAndScrapRemoveTheBoard :
    (∀ b, (waiting .bench (frame 0x60#8 (bytes32 9 ++ [flagByte b])) held).Ready .bench
      (frame 0x60#8 (bytes32 9 ++ [flagByte b])) []) ∧ 1 ≤ 9 ∧ 9 < 2 ^ 32 :=
  ⟨fun _ => waiting_ready _ _ _, by decide⟩

theorem witness_ResprayAndRecureSendTheBoardBack :
    let payload := bytes32 9 ++ [2#8, 0#8, 0#8]
    (waiting .bench (frame 0x60#8 payload) held).Ready .bench (frame 0x60#8 payload) [] ∧
      (waiting .bench (frame 0x60#8 (bytes32 9 ++ [3#8])) held).Ready .bench (frame 0x60#8 (bytes32 9 ++ [3#8])) [] ∧
      1 ≤ 9 ∧ 9 < 2 ^ 32 := ⟨waiting_ready _ _ _, waiting_ready _ _ _, by decide⟩

theorem witness_ListHoldsRepliesTheTable :
    (waiting .bench (frame 0x07#8 []) held).Ready .bench (frame 0x07#8 []) [] := waiting_ready _ _ _

theorem witness_OldSprayEndsAndHoldEscalations :
    let b := { board .held .hold with sprayEnd := some ⟨0#32, false⟩ }
    let s : State := { held with records := [b] }
    (s.records.map (·.serial)).Nodup ∧ b ∈ s.records ∧ b.serial = 9 ∧ b.sprayEnd = some ⟨0#32, false⟩ ∧
      s.hold? 9 = some ⟨9, .exitRack, 0#32, true, some 0#32, .pending⟩ ∧ s.record? 9 = some b ∧
      reached s.clock 0#32 = true := by decide

/-! ### Witnesses: the invariants -/

theorem held_within : held.Within := by
  refine ⟨by decide, by decide, ?_, by decide, by decide, by decide, by decide, by decide, by decide, by decide⟩
  intro b hb
  simp only [held, List.mem_singleton] at hb
  subst hb
  exact ⟨by decide, by decide, by decide, by decide, by decide⟩

theorem witness_DoseAndTalliesNeverFall :
    held.Within ∧ (∃ t, step held = .next t) ∧ ∃ b ∈ held.records, b.serial = 9 :=
  ⟨held_within, ⟨_, rfl⟩, by decide⟩

theorem held_port (p : Port) : (held.port p).Sound := by
  have none_ : ∀ (q : Port) (i : Fin 19), (held.port q).events[i] = none := by intro q; cases q <;> decide
  cases p <;>
    exact ⟨by decide, by decide, by decide, fun i r h => (by rw [none_] at h; cases h), by decide⟩

theorem cleared_sound : RecipeSlot.cleared.Sound :=
  ⟨nofun, by decide, by decide, by decide +kernel, fun i k f h =>
    absurd h (by revert i; intro i; revert k f; revert i; decide +kernel)⟩

theorem recipe_sound : recipe.Sound :=
  ⟨fun a h => by cases h; decide, by decide, by decide, by decide +kernel, fun i k f h => by
    revert h; revert i k f; decide +kernel⟩

theorem held_store : held.store.Sound := by
  refine ⟨fun i => ?_, by decide, by decide, by decide⟩
  match i with
  | 0 => exact recipe_sound
  | 1 | 2 | 3 | 4 | 5 | 6 | 7 => exact cleared_sound

theorem witness_QueuesAndCountsStayWithinBounds :
    (∀ p, (held.port p).Sound) ∧ held.store.Sound ∧ (∀ l, (held.lane l).Within) ∧ held.Within ∧
      ∃ t, step held = .next t :=
  ⟨held_port, held_store, fun l => by cases l <;> exact ⟨by decide, by decide, by decide, by decide, by decide,
    by decide, by decide, by decide, by decide, by decide⟩, held_within, _, rfl⟩

theorem held_lane (l : LaneId) : held.LaneSound l := by
  cases l <;> exact ⟨⟨by decide, by decide, by decide, by decide⟩, by decide, by decide, by decide, by decide, by decide,
    by decide, by decide, by decide, by decide, by decide, by decide, by decide⟩

theorem held_at (n : Serial) (x : Location) : held.At n x ↔ n = 9 ∧ x = .hold := by
  constructor
  · rintro ⟨b, hb, h1, h2⟩
    simp only [held, List.mem_singleton] at hb
    subst hb
    exact ⟨h1.symm, h2.symm⟩
  · rintro ⟨rfl, rfl⟩
    exact ⟨_, List.mem_singleton.2 rfl, rfl, rfl⟩

theorem witness_BoardsStayInTheirPlaces : held.Placed ∧ ∃ t, step held = .next t := by
  refine ⟨⟨by decide, held_lane, by decide, fun l => by cases l <;> exact nofun, fun l => by cases l <;> decide,
    fun l => by cases l <;> decide, fun l w h => (by cases l <;> exact nomatch h), fun n => ?_, fun n => ?_, by decide, fun n => ?_,
    by decide, by decide, nofun⟩, _, rfl⟩
  · rw [held_at]
    exact ⟨fun h => absurd h.2 (by decide), fun h => nomatch h⟩
  · rw [held_at]
    exact ⟨fun h => absurd h.2 (by decide), fun h => nomatch h.choose_spec.1⟩
  · rw [held_at]
    constructor
    · rintro ⟨rfl, -⟩
      exact ⟨_, List.mem_singleton.2 rfl, rfl⟩
    · rintro ⟨e, he, rfl⟩
      rw [List.mem_singleton.1 he]
      exact ⟨rfl, rfl⟩

/-- Lane 0 SPRAYING board 9, its sequencer OPEN for the segment, whose tagged feature is masked. -/
def running : State :=
  let b : BoardRecord := { board .spraying (.lane .lane0) with verdicts := (Vector.replicate 16 .unread).set 1 .present }
  { inPhase .opened with records := [b] }

theorem running_at (n : Serial) (x : Location) : running.At n x ↔ n = 9 ∧ x = .lane .lane0 := by
  constructor
  · rintro ⟨b, hb, h1, h2⟩
    simp only [running, List.mem_singleton] at hb
    subst hb
    exact ⟨h1.symm, h2.symm⟩
  · rintro ⟨rfl, rfl⟩
    exact ⟨_, List.mem_singleton.2 rfl, rfl, rfl⟩

theorem running_lane (l : LaneId) : running.LaneSound l := by
  cases l <;> exact ⟨⟨by decide, by decide, by decide, by decide⟩, by decide, by decide, by decide, by decide, by decide,
    by decide, by decide, by decide, by decide, by decide, by decide, by decide⟩

theorem running_placed : running.Placed := by
  refine ⟨by decide, running_lane, by decide, fun l => by cases l <;> exact nofun, fun l => by cases l <;> decide,
    fun l => by cases l <;> decide, fun l w h => (by cases l <;> exact nomatch h), fun n => ?_, fun n => ?_, by decide,
    fun n => ?_, by decide, by decide, nofun⟩ <;> rw [running_at]
  · exact ⟨fun h => absurd h.2 (by decide), fun h => nomatch h⟩
  · exact ⟨fun h => absurd h.2 (by decide), fun h => nomatch h.choose_spec.1⟩
  · exact ⟨fun h => absurd h.2 (by decide), fun h => nomatch h.choose_spec.1⟩

theorem running_unsuppressed (l : LaneId) : running.RunsUnsuppressed l := by
  intro b seg hb hq _ hs
  cases l with
  | lane1 => exact absurd rfl hq
  | lane0 =>
    have hseg : seg = Tests.segment := by
      have hm := List.mem_of_find?_eq_some hs
      exact List.mem_singleton.1 hm
    cases hb
    subst hseg
    exact ⟨by decide, by decide⟩

theorem witness_OutputLinesFollowTheState :
    running.Placed ∧ running.ClearingFindsNoReference ∧ (∀ l, running.RunsUnsuppressed l) ∧
      (∃ t, step running = .next t) ∧ running.valveDrive .lane0 .bead = true ∧
      running.valveDrive .lane0 .atomize = false :=
  ⟨running_placed, fun h => absurd h (by decide), running_unsuppressed, ⟨_, rfl⟩, by decide, by decide⟩

end Sys2Proof.Tests
end

section
/-!
What the effects of an occurrence keep: the ports only gain notices, and every table, queue, count and setting stays
within its bounds. `Kept s t` relates the state before and after a part of an occurrence; every shared operation keeps
it, so every occurrence does.
-/

namespace Sys2Proof.Machine

open Sys2Proof

/-! ### Ports: what raising events can do -/

/-- R9: every raised record of a port counts 1 to 255. -/
def PortState.CountsInRange (ps : PortState) : Prop :=
  ∀ (i : Fin 19) (r : EventRecord), ps.events[i] = some r → 1 ≤ r.count ∧ r.count ≤ 255

/-- What the effects of an occurrence may do to a port: notices join behind the transmit queue (R6), and event records
rise, count or clear. -/
structure PortState.GrowsTo (ps qs : PortState) : Prop where
  rx : qs.rx = ps.rx
  tx : ∃ added, qs.tx = ps.tx ++ added ∧ ∀ x ∈ added, x.notice = true
  notices : noticeCount ps ≤ 16 → noticeCount qs ≤ 16
  counts : ps.CountsInRange → qs.CountsInRange
  errors : qs.frameErrors = ps.frameErrors

namespace PortState.GrowsTo

variable {ps qs rs : PortState}

theorem refl (ps : PortState) : ps.GrowsTo ps := ⟨rfl, ⟨[], by simp⟩, id, id, rfl⟩

theorem trans (h : ps.GrowsTo qs) (g : qs.GrowsTo rs) : ps.GrowsTo rs := by
  obtain ⟨a, ha, hna⟩ := h.tx
  obtain ⟨b, hb, hnb⟩ := g.tx
  refine ⟨g.rx.trans h.rx, ⟨a ++ b, by rw [hb, ha, List.append_assoc], ?_⟩, g.notices ∘ h.notices, g.counts ∘ h.counts,
    g.errors.trans h.errors⟩
  intro x hx
  exact (List.mem_append.1 hx).elim (hna x) (hnb x)

end PortState.GrowsTo

/-- Setting one event record to a count in range keeps the counts in range. -/
theorem PortState.CountsInRange.set {ps qs : PortState} (h : ps.CountsInRange) (k : Fin 19) (r : EventRecord)
    (hq : qs.events = ps.events.set k (some r)) (h1 : 1 ≤ r.count) (h2 : r.count ≤ 255) : qs.CountsInRange := by
  intro i x hx
  rw [hq] at hx
  by_cases hi : i = k
  · subst hi
    simp at hx
    subst hx
    exact ⟨h1, h2⟩
  · refine h i x ?_
    simpa [Vector.getElem_set, Fin.val_ne_of_ne (Ne.symm hi)] using hx

theorem noticeCount_append (ps : PortState) (x : TxFrame) :
    noticeCount { ps with tx := ps.tx ++ [x] } = noticeCount ps + if x.notice then 1 else 0 := by
  cases hx : x.notice <;> simp [noticeCount, List.filter_append, hx]

/-- R6: a notice joins only a queue with fewer than 16 of them. -/
theorem queueNotice_grows (f : Frame) (ps : PortState) : ps.GrowsTo (queueNotice f ps) := by
  rcases queueNotice_cases ps f with ⟨hlt, he⟩ | ⟨_, he⟩
  · rw [he]
    refine ⟨rfl, ⟨[⟨true, f⟩], rfl, by simp⟩, fun _ => ?_, id, rfl⟩
    rw [noticeCount_append]
    simpa using hlt
  · rw [he]
    exact .refl ps

theorem raiseIn_grows (k : EventKind) (d : Detail) (ps : PortState) : ps.GrowsTo (raiseIn k d ps) := by
  cases he : ps.events[k.idx] with
  | none =>
    rw [raiseIn_clear k d ps he]
    have hup : ps.GrowsTo { ps with events := ps.events.set k.idx (some ⟨d, 1⟩) } :=
      ⟨rfl, ⟨[], by simp⟩, id, fun h => h.set k.idx ⟨d, 1⟩ rfl (Nat.le_refl 1) (by simp), rfl⟩
    dsimp only
    split
    · exact hup.trans (queueNotice_grows _ _)
    · exact hup
  | some r =>
    rw [raiseIn_raised k d ps r he]
    exact ⟨rfl, ⟨[], by simp⟩, id,
      fun h => h.set k.idx _ rfl (by simp only [satAdd]; omega) (by simp only [satAdd]; omega), rfl⟩

/-- LINE_RESET clears every record of a port (R18). -/
theorem clearEvents_grows (ps : PortState) : ps.GrowsTo ps.clearEvents :=
  ⟨rfl, ⟨[], by simp [PortState.clearEvents]⟩, id, fun _ i r h => by simp [PortState.clearEvents] at h, rfl⟩

/-- A port that is sound stays sound as notices join it. -/
theorem PortState.Sound.grows {ps qs : PortState} (h : ps.Sound) (g : ps.GrowsTo qs) : qs.Sound := by
  obtain ⟨added, ht, hn⟩ := g.tx
  refine ⟨by rw [g.rx]; exact h.rx, g.notices h.notices, ?_, g.counts h.counts, by rw [g.errors]; exact h.errors⟩
  have hnone : (added.filter fun x => !x.notice) = [] := by simpa using hn
  rw [ht, List.filter_append, hnone, List.append_nil]
  exact h.replies

/-! ### Lanes: the bounds block by block -/

/-- R58, R68, R69: the bounds of a Lane Controller. -/
structure LaneCtl.Within (c : LaneCtl) : Prop where
  announced : c.queue.length ≤ 4
  settings : c.settings.inRange = true
  nozzle : c.nozzleCount ≤ 65535

/-- R77, R81: the bounds of a Station Port. -/
structure StationPort.Within (st : StationPort) : Prop where
  readings : st.inspectQueue.length ≤ 4
  overruns : st.startOverruns ≤ 255 ∧ st.endOverruns ≤ 255 ∧ st.inspectOverruns ≤ 255 ∧ st.boardOverruns ≤ 255

/-- R81, R89: the bounds of a Mask Checker. -/
structure MaskChecker.Within (m : MaskChecker) : Prop where
  late : m.lateCount ≤ 65535
  unmapped : m.unmappedCount ≤ 65535

/-- R123: the bounds of Flow Metering. -/
structure FlowMeter.Within (m : FlowMeter) : Prop where
  pulses : m.segPulses ≤ 65535
  idle : m.idleDrip ≤ 65535

/-- A lane is within its bounds when each of its blocks is (R102 for the path's queue). -/
theorem Lane.within_iff (x : Lane) :
    x.Within ↔ x.ctl.Within ∧ x.station.Within ∧ x.checker.Within ∧ x.path.queue.length ≤ 128 ∧ x.meter.Within :=
  ⟨fun h => ⟨⟨h.announced, h.settings, h.nozzle⟩, ⟨h.readings, h.overruns⟩, ⟨h.late, h.unmapped⟩, h.loaded,
      ⟨h.pulses, h.idle⟩⟩,
    fun ⟨c, st, m, q, fm⟩ => ⟨c.announced, c.settings, c.nozzle, st.readings, st.overruns, m.late, m.unmapped, q,
      fm.pulses, fm.idle⟩⟩

/-! ### Records and the oven -/

/-- R39: at most 32 records, of distinct serials, each within its widths. -/
structure RecordsWithin (rs : List BoardRecord) : Prop where
  count : rs.length ≤ 32
  distinct : (rs.map (·.serial)).Nodup
  each : ∀ b ∈ rs, b.Within

/-- R144, R156, R158: the occupancy queue with the grant that stands, and the ages of the zones. -/
structure State.OvenWithin (s : State) : Prop where
  count : s.oven.queue.length ≤ 12
  granted : s.gate.grant.isSome = true → s.oven.queue.length < 12
  positions : ∀ e ∈ s.oven.queue, e.position < 2 ^ 32
  ordered : s.oven.queue.Pairwise fun ahead behind => behind.position ≤ ahead.position
  ages : ∀ z : Fin 6, s.oven.zones[z].age ≤ 10000

theorem State.within_iff (s : State) :
    s.Within ↔ RecordsWithin s.records ∧ s.holds.length ≤ 16 ∧ s.OvenWithin ∧ s.settings.inRange = true :=
  ⟨fun h => ⟨⟨h.records, h.distinct, h.each⟩, h.holds, ⟨h.oven, h.granted, h.positions, h.ordered, h.ages⟩, h.settings⟩,
    fun ⟨r, ho, o, se⟩ => ⟨r.count, r.distinct, r.each, ho, o.count, o.granted, o.positions, o.ordered, o.ages, se⟩⟩

/-- The record of a serial is within its widths. -/
theorem RecordsWithin.record? {s : State} (h : RecordsWithin s.records) {n : Serial} {b : BoardRecord}
    (hb : s.record? n = some b) : b.Within := h.each b (record?_mem s n b hb)

/-- Records of one serial are one record. -/
theorem RecordsWithin.eq_of_serial {rs : List BoardRecord} (h : RecordsWithin rs) {b c : BoardRecord} (hb : b ∈ rs)
    (hc : c ∈ rs) (he : b.serial = c.serial) : b = c := List.inj_on_of_nodup_map h.distinct hb hc he

/-! ### The relation -/

/-- A part of an occurrence from `s` to `t` keeps the bounds of every block. -/
structure Kept (s t : State) : Prop where
  ports : ∀ p, (s.port p).GrowsTo (t.port p)
  store : s.store.Sound → t.store.Sound
  lanes : ∀ l, (s.lane l).Within → (t.lane l).Within
  records : RecordsWithin s.records → RecordsWithin t.records
  holds : s.holds.length ≤ 16 → t.holds.length ≤ 16
  oven : s.OvenWithin → t.OvenWithin
  settings : s.settings.inRange = true → t.settings.inRange = true

namespace Kept

variable {s t u : State}

theorem refl (s : State) : Kept s s := ⟨fun _ => .refl _, id, fun _ => id, id, id, id, id⟩

theorem trans (h : Kept s t) (g : Kept t u) : Kept s u :=
  ⟨fun p => (h.ports p).trans (g.ports p), g.store ∘ h.store, fun l => g.lanes l ∘ h.lanes l, g.records ∘ h.records,
    g.holds ∘ h.holds, g.oven ∘ h.oven, g.settings ∘ h.settings⟩

theorem ite {c : Prop} [Decidable c] (h : c → Kept s t) (g : ¬c → Kept s u) : Kept s (if c then t else u) := by
  split
  · exact h ‹_›
  · exact g ‹_›

/-! Changes of one block -/

theorem modLane {l : LaneId} {f : Lane → Lane} (hf : (t.lane l).Within → (f (t.lane l)).Within) (h : Kept s t) :
    Kept s (t.modLane l f) := by
  refine h.trans ⟨fun p => ?_, by simp, fun m => ?_, by simp, by simp, fun o => ?_, by simp⟩
  · cases l <;> cases p <;> exact .refl _
  · by_cases hm : m = l
    · subst hm
      simpa using hf
    · rw [modLane_lane_ne t l m f hm]
      exact id
  · exact ⟨by simpa using o.count, by simpa using o.granted, by simpa using o.positions, by simpa using o.ordered,
      by simpa using o.ages⟩

theorem modCtl {l : LaneId} {f : LaneCtl → LaneCtl} (hf : (t.lane l).ctl.Within → (f (t.lane l).ctl).Within)
    (h : Kept s t) : Kept s (t.modCtl l f) :=
  .modLane (fun hw => by
    rw [Lane.within_iff] at hw ⊢
    exact ⟨hf hw.1, hw.2⟩) h

theorem modStation {l : LaneId} {f : StationPort → StationPort}
    (hf : (t.lane l).station.Within → (f (t.lane l).station).Within) (h : Kept s t) : Kept s (t.modStation l f) :=
  .modLane (fun hw => by
    rw [Lane.within_iff] at hw ⊢
    obtain ⟨hc, hst, hrest⟩ := hw
    exact ⟨hc, hf hst, hrest⟩) h

theorem modChecker {l : LaneId} {f : MaskChecker → MaskChecker}
    (hf : (t.lane l).checker.Within → (f (t.lane l).checker).Within) (h : Kept s t) : Kept s (t.modChecker l f) :=
  .modLane (fun hw => by
    rw [Lane.within_iff] at hw ⊢
    obtain ⟨hc, hst, hm, hrest⟩ := hw
    exact ⟨hc, hst, hf hm, hrest⟩) h

theorem modPath {l : LaneId} {f : PathExec → PathExec}
    (hf : (t.lane l).path.queue.length ≤ 128 → (f (t.lane l).path).queue.length ≤ 128) (h : Kept s t) :
    Kept s (t.modPath l f) :=
  .modLane (fun hw => by
    rw [Lane.within_iff] at hw ⊢
    obtain ⟨hc, hst, hm, hq, hfm⟩ := hw
    exact ⟨hc, hst, hm, hf hq, hfm⟩) h

theorem modMeter {l : LaneId} {f : FlowMeter → FlowMeter}
    (hf : (t.lane l).meter.Within → (f (t.lane l).meter).Within) (h : Kept s t) : Kept s (t.modMeter l f) :=
  .modLane (fun hw => by
    rw [Lane.within_iff] at hw ⊢
    obtain ⟨hc, hst, hm, hq, hfm⟩ := hw
    exact ⟨hc, hst, hm, hq, hf hfm⟩) h

theorem setLaneState {l : LaneId} {x : LaneState} (h : Kept s t) : Kept s (t.setLaneState l x) :=
  .modCtl (fun hc => { hc with }) h

/-- The gate may change freely, but a grant appears only while the oven has room. -/
theorem setGate {g : Gate} (hg : g.grant.isSome = true → t.gate.grant.isSome = true ∨ t.oven.queue.length < 12)
    (h : Kept s t) : Kept s { t with gate := g } :=
  h.trans ⟨fun p => by cases p <;> exact .refl _, id, fun l => by cases l <;> exact id, id, id,
    fun o => { o with granted := fun hs => (hg hs).elim o.granted id }, id⟩

theorem setHolds {hs : List HoldEntry} (hh : t.holds.length ≤ 16 → hs.length ≤ 16) (h : Kept s t) :
    Kept s { t with holds := hs } :=
  h.trans ⟨fun p => by cases p <;> exact .refl _, id, fun l => by cases l <;> exact id, id, hh,
    fun o => { o with }, id⟩

theorem setOven {o : Oven} (ho : t.OvenWithin → State.OvenWithin { t with oven := o }) (h : Kept s t) :
    Kept s { t with oven := o } :=
  h.trans ⟨fun p => by cases p <;> exact .refl _, id, fun l => by cases l <;> exact id, id, id, ho, id⟩

theorem setStore {st : RecipeStore} (hs : t.store.Sound → st.Sound) (h : Kept s t) : Kept s { t with store := st } :=
  h.trans ⟨fun p => by cases p <;> exact .refl _, hs, fun l => by cases l <;> exact id, id, id,
    fun o => { o with }, id⟩

theorem setRecords {rs : List BoardRecord} (hr : RecordsWithin t.records → RecordsWithin rs) (h : Kept s t) :
    Kept s { t with records := rs } :=
  h.trans ⟨fun p => by cases p <;> exact .refl _, id, fun l => by cases l <;> exact id, hr, id,
    fun o => { o with }, id⟩

theorem setSettings {c : LineSettings} (hc : c.inRange = true) (h : Kept s t) : Kept s { t with settings := c } :=
  h.trans ⟨fun p => by cases p <;> exact .refl _, id, fun l => by cases l <;> exact id, id, id,
    fun o => { o with }, fun _ => hc⟩

theorem setFreeCount {n : Nat} (h : Kept s t) : Kept s { t with freeCount := n } :=
  h.trans ⟨fun p => by cases p <;> exact .refl _, id, fun l => by cases l <;> exact id, id, id,
    fun o => { o with }, id⟩

theorem modPort {p : Port} {f : PortState → PortState} (hf : (t.port p).GrowsTo (f (t.port p))) (h : Kept s t) :
    Kept s (t.modPort p f) := by
  refine h.trans ⟨fun q => ?_, by simp, fun l => by simp, by simp, by simp, fun o => ?_, by simp⟩
  · by_cases hq : q = p
    · subst hq
      rw [modPort_port]
      exact hf
    · rw [modPort_port_ne t p q f hq]
      exact .refl _
  · exact ⟨by simpa using o.count, by simpa using o.granted, by simpa using o.positions, by simpa using o.ordered,
      by simpa using o.ages⟩

theorem raise {k : EventKind} {l : Option LaneId} {n : Serial} {c : Nat} (h : Kept s t) :
    Kept s (raise k l n c t) :=
  h.trans ⟨fun p => by rw [raise_port]; exact raiseIn_grows _ _ _, id, fun m => by rw [raise_lane]; exact id, id, id,
    fun o => { o with }, id⟩

/-! Records -/

/-- A change of the record of one serial that keeps the serial and the widths. -/
theorem modRecordOf {n : Serial} {f : BoardRecord → BoardRecord}
    (hf : RecordsWithin t.records → ∀ r ∈ t.records, r.serial = n → (f r).serial = n ∧ (f r).Within) (h : Kept s t) :
    Kept s (t.modRecord n f) := by
  refine .setRecords (fun hr => ⟨by simpa using hr.count, ?_, fun b hb => ?_⟩) h
  · have hs : (t.records.map fun r => if r.serial = n then f r else r).map (·.serial) = t.records.map (·.serial) := by
      rw [List.map_map]
      refine List.map_congr_left fun r hmem => ?_
      by_cases hn : r.serial = n
      · simp [hn, (hf hr r hmem hn).1]
      · simp [hn]
    rw [hs]
    exact hr.distinct
  · obtain ⟨r, hmem, rfl⟩ := List.mem_map.1 hb
    split
    · exact (hf hr r hmem ‹_›).2
    · exact hr.each r hmem

/-- A change of a record that keeps the serial and the widths whatever the record. -/
theorem modRecord {n : Serial} {f : BoardRecord → BoardRecord}
    (hf : ∀ r : BoardRecord, (f r).serial = r.serial ∧ (r.Within → (f r).Within)) (h : Kept s t) :
    Kept s (t.modRecord n f) :=
  .modRecordOf (fun hr r hmem hn => ⟨(hf r).1.trans hn, (hf r).2 (hr.each r hmem)⟩) h

theorem removeRecord {n : Serial} (h : Kept s t) : Kept s (t.removeRecord n) :=
  .setRecords (fun hr => ⟨(List.length_filter_le _ _).trans hr.count, hr.distinct.sublist (List.filter_sublist.map _),
    fun b hb => hr.each b (List.mem_of_mem_filter hb)⟩) h

theorem addReason {n : Serial} {r : Reason} (h : Kept s t) : Kept s (t.addReason n r) :=
  .modRecord (fun _ => ⟨rfl, fun w => { w with }⟩) h

theorem removeHold {n : Serial} (h : Kept s t) : Kept s (t.removeHold n) :=
  .setHolds (fun hh => (List.length_filter_le _ _).trans hh) h

end Kept

end Sys2Proof.Machine
end

section
/-!
Every shared operation keeps the bounds: holds, the gate, a lane's states, and the operations of the seven blocks, each in
terms of the operations it is made of.
-/

namespace Sys2Proof.Machine

open Sys2Proof

theorem satAdd_le (cap n k : Nat) : satAdd cap n k ≤ cap := Nat.min_le_left _ _

/-- R144: a free gate has room in the oven for one more board. -/
theorem gateFree_room {t : State} (hf : t.gateFree = true) : t.oven.queue.length < 12 := by
  simp only [State.gateFree, Bool.and_eq_true, decide_eq_true_eq] at hf
  exact hf.1.2

@[simp] theorem setWaiting_grant (g : Gate) (src : Source) (w : Option Waiting) :
    (g.setWaiting src w).grant = g.grant := by
  cases src with
  | lane l => exact setExit_grant g l w
  | returnStation => rfl

@[simp] theorem letGo_freeEntries (s : State) (l : LaneId) : (s.letGo l).freeEntries = s.freeEntries := by
  simp [State.freeEntries, State.letGo]

namespace Kept

variable {s t u : State} {l : LaneId} {n : Serial} {b : BoardRecord}

/-! ### Holds (R168 to R172) -/

theorem grantHold {loc : HoldLocation} (hf : 1 ≤ t.freeEntries) (h : Kept s t) : Kept s (t.grantHold b loc) := by
  have hlen : (t.holds ++ [t.holdEntry b loc]).length ≤ 16 := by
    simp only [State.freeEntries] at hf
    rw [List.length_append, List.length_singleton]
    omega
  exact .raise (.modRecord (fun _ => ⟨rfl, fun w => { w with }⟩) (.setHolds (fun _ => hlen) h))

theorem overflow {code : Nat} (h : Kept s t) : Kept s (t.overflow b code) := .raise (.removeRecord h)

theorem ovenHold {loc : HoldLocation} (h : Kept s t) : Kept s (t.ovenHold b loc) := by
  rcases ovenHold_cases t b loc with ⟨hf, he⟩ | ⟨_, he⟩
  · rw [he]
    exact .grantHold hf h
  · rw [he]
    exact .overflow h

theorem letGo (h : Kept s t) : Kept s (t.letGo l) := by
  unfold State.letGo
  exact .modPath id (.setGate (by simpa using .inl) h)

theorem enterEjecting {x : Option Serial} (h : Kept s t) : Kept s (t.enterEjecting l x) :=
  .modCtl (fun hc => { hc with }) h

theorem laneHold (h : Kept s t) : Kept s (t.laneHold l n) := by
  rcases laneHold_cases t l n with ⟨_, he⟩ | ⟨b, _, hf, he⟩ | ⟨b, _, _, he⟩
  · rw [he]
    exact h
  · rw [he]
    exact .enterEjecting (.grantHold (by rw [letGo_freeEntries]; omega) (.letGo h))
  · rw [he]
    exact .raise (.setLaneState (.modRecord (fun _ => ⟨rfl, fun w => { w with }⟩) (.letGo h)))

theorem retryLane (h : Kept s t) : Kept s (t.retryLane l) := by
  rcases retryLane_cases t l with he | ⟨b, _, _, hf, he⟩
  · rw [he]
    exact h
  · rw [he]
    exact .enterEjecting (.grantHold (by omega) h)

theorem retryBlocked (h : Kept s t) : Kept s t.retryBlocked := .retryLane (.retryLane h)

/-! ### The gate (R140 to R149) -/

theorem grantTo {src : Source} (hr : t.oven.queue.length < 12) (h : Kept s t) : Kept s (t.grantTo src) := by
  unfold State.grantTo
  cases src with
  | lane l =>
    cases he : t.gate.exit l with
    | none =>
      simp only [he]
      exact .setGate (fun _ => .inr hr) h
    | some w =>
      simp only [he]
      refine .setGate (fun _ => .inr (by simpa using hr)) (.setLaneState (.modRecord ?_ (.setGate ?_ h)))
      · exact fun _ => ⟨rfl, fun w => { w with }⟩
      · simpa using .inl
  | returnStation =>
    cases t.gate.station with
    | none => exact .setGate (fun _ => .inr hr) h
    | some w =>
      refine .setGate (fun _ => .inr hr) (.modRecord ?_ (.setGate .inl h))
      exact fun _ => ⟨rfl, fun w => { w with }⟩

theorem reevaluate (h : Kept s t) : Kept s t.reevaluate := by
  rcases reevaluate_cases t with he | ⟨c, hf, _, he⟩
  · rw [he]
    exact h
  · rw [he]
    exact .grantTo (gateFree_room hf) h

theorem reevaluateStation (h : Kept s t) : Kept s t.reevaluateStation := .ite (fun _ => .reevaluate h) fun _ => h

theorem reevaluateExit (h : Kept s t) : Kept s (t.reevaluateExit l) := .ite (fun _ => .reevaluate h) fun _ => h

theorem enterStation (h : Kept s t) : Kept s (t.enterStation b) := .setGate .inl h

theorem emptyStation (h : Kept s t) : Kept s t.emptyStation := .setGate .inl h

theorem endGrant (h : Kept s t) : Kept s t.endGrant := .setGate nofun h

theorem presenceChange {level : Bool} (h : Kept s t) : Kept s (t.presenceChange level) :=
  .ite (fun _ => .reevaluateStation (.setGate .inl h)) fun _ => .setGate .inl h

theorem flashReady {src : Source} {w : Waiting} (h : Kept s t) : Kept s (t.flashReady src w) :=
  .ite (fun _ => .setGate (by simpa using .inl) h) fun _ => .reevaluate (.setGate (by simpa using .inl) h)

theorem stationFails {r : Reason} (h : Kept s t) : Kept s (t.stationFails n r) := by
  unfold State.stationFails
  split
  · exact .emptyStation h
  · exact .emptyStation (.ovenHold (.addReason h))

/-! ### A lane's states (R60 to R66, R87) -/

theorem startCheck (h : Kept s t) : Kept s (t.startCheck l b) :=
  .modChecker (fun hm => { hm with }) (.setLaneState (.modRecord (fun _ => ⟨rfl, fun w => { w with }⟩) h))

theorem leaveQueue (h : Kept s t) : Kept s (t.leaveQueue l n) :=
  .modCtl (fun hc => { hc with announced := (List.length_filter_le _ _).trans hc.announced }) h

theorem takeArrived (h : Kept s t) : Kept s (t.takeArrived l n) := by
  rcases takeArrived_cases t l n with ⟨_, he⟩ | ⟨_, ⟨_, he⟩ | ⟨b, _, _, he⟩ | ⟨b, _, _, he⟩⟩
  · rw [he]
    exact .enterEjecting (.raise h)
  · rw [he]
    exact h
  · rw [he]
    exact .startCheck (.leaveQueue h)
  · rw [he]
    exact .laneHold (.addReason (.leaveQueue h))

theorem serveArrived (h : Kept s t) : Kept s (t.serveArrived l) := by
  unfold State.serveArrived
  split
  · dsimp only
    split
    · exact .takeArrived (.modStation (fun hst => { hst with }) h)
    · exact .raise (.modStation (fun hst => { hst with }) h)
    · exact h
  · exact h

theorem enterIdle (h : Kept s t) : Kept s (t.enterIdle l) :=
  .serveArrived (.modCtl (fun hc => { hc with }) h)

/-! ### The transfer (R148 to R150) -/

/-- R148: the board whose grant ends finds room at the tail of the oven. -/
theorem endGrant_enterOven (hg : t.gate.grant.isSome = true) (h : Kept s t) : Kept s (t.endGrant.enterOven n) := by
  refine .modRecord (fun _ => ⟨rfl, fun w => { w with }⟩) (h.trans ?_)
  refine ⟨fun p => by cases p <;> exact .refl _, id, fun l => by cases l <;> exact id, id, id, fun o => ?_, id⟩
  refine ⟨?_, nofun, fun e he => ?_, ?_, o.ages⟩
  · simpa using o.granted hg
  · rcases List.mem_append.1 he with he | he
    · exact o.positions e he
    · rw [List.mem_singleton.1 he]
      exact Nat.two_pow_pos 32
  · refine List.pairwise_append.2 ⟨o.ordered, List.pairwise_singleton _ _, fun a _ b hb => ?_⟩
    rw [List.mem_singleton.1 hb]
    exact Nat.zero_le _

theorem freeSource {src : Source} (h : Kept s t) : Kept s (t.freeSource src) := by
  cases src with
  | lane l => exact .enterIdle h
  | returnStation => exact .emptyStation h

theorem transferFails {src : Source} (h : Kept s t) : Kept s (t.transferFails src) := by
  unfold State.transferFails
  split
  · exact .endGrant h
  · cases src with
    | lane l => exact .laneHold (.addReason (.endGrant h))
    | returnStation => exact .stationFails (.endGrant h)

end Kept

end Sys2Proof.Machine
end

section
/-!
The blocks' own operations keep the bounds: the oven, metering, the path, the checker, the station ports, the lanes.
-/

namespace Sys2Proof.Machine

open Sys2Proof

/-! ### Records: the numbers an operation may raise -/

theorem judgeCured_within {b : BoardRecord} (c : Cure) (w : b.Within) : (judgeCured c b).Within := { w with }

theorem addReason_within {b : BoardRecord} (r : Reason) (w : b.Within) : (b.addReason r).Within := { w with }

/-- R160 to R162: a dose tick keeps a record's serial, and its dose saturates. -/
theorem doseBoard_within (c : Cure) (temp : Option Int) (b : BoardRecord) :
    (doseBoard c temp b).serial = b.serial ∧ (b.Within → (doseBoard c temp b).Within) := by
  cases temp with
  | none => exact ⟨rfl, fun w => judgeCured_within c (addReason_within _ w)⟩
  | some t =>
    unfold doseBoard
    dsimp only
    split
    · exact ⟨rfl, fun w => judgeCured_within c { w with dose := Nat.lt_of_le_of_lt (satAdd_le ..) (by decide) }⟩
    · exact ⟨rfl, fun w => judgeCured_within c { w with dose := Nat.lt_of_le_of_lt (satAdd_le ..) (by decide) }⟩

/-- R164: the exit judgement only adds reasons. -/
theorem judgeDose_within (c : Cure) (b : BoardRecord) :
    (judgeDose c b).serial = b.serial ∧ (b.Within → (judgeDose c b).Within) := by
  unfold judgeDose
  dsimp only
  split <;> split <;> exact ⟨rfl, fun w => { w with }⟩

/-- R134, R135: the film judgement only adds reasons and areas. -/
theorem judgeFilm_within (specs : List AreaSpec) (b : BoardRecord) :
    (judgeFilm specs b).serial = b.serial ∧ (b.Within → (judgeFilm specs b).Within) := by
  unfold judgeFilm
  dsimp only
  split <;> split <;> exact ⟨rfl, fun w => { w with }⟩

/-- R127: the drip count saturates. -/
theorem dripOn_within (limit : Nat) (b : BoardRecord) :
    (dripOn limit b).serial = b.serial ∧ (b.Within → (dripOn limit b).Within) := by
  unfold dripOn
  dsimp only
  split
  · exact ⟨rfl, fun w => addReason_within _ { w with drip := satAdd_le .. }⟩
  · exact ⟨rfl, fun w => { w with drip := satAdd_le .. }⟩

/-- R131: an area tally saturates. -/
theorem tally_within (a : Fin 12) (v : Nat) (b : BoardRecord) (w : b.Within) :
    BoardRecord.Within { b with tallies := b.tallies.set a (satAdd (2 ^ 32 - 1) b.tallies[a] v) } := by
  refine { w with tallies := fun i => ?_ }
  by_cases hi : i = a
  · subst hi
    simpa using Nat.lt_of_le_of_lt (satAdd_le _ _ _) (by decide)
  · simpa [Vector.getElem_set, Fin.val_ne_of_ne (Ne.symm hi)] using w.tallies i

namespace Kept

variable {s t u : State} {l : LaneId} {n : Serial} {b : BoardRecord}

/-! ### DISPOSE and escalation (R173 to R178) -/

/-- R48: an entry joins an announce queue that has room. -/
theorem joinQueue {e : QueueEntry} (hr : (t.lane l).ctl.queue.length < 4) (h : Kept s t) : Kept s (t.joinQueue l e) :=
  .modCtl (fun hc => { hc with announced := by simpa using hr }) h

theorem disposeOut {k : EventKind} (h : Kept s t) : Kept s (t.disposeOut k b) :=
  .retryBlocked (.raise (.removeRecord (.removeHold h)))

/-- R177, R178: a record whose rework count is below 2 may be reworked once more. -/
theorem rework {f : BoardRecord → BoardRecord} (hb : b ∈ t.records) (hw : b.rework < 2)
    (hs : ∀ r, (f r).serial = r.serial) (hr : ∀ r, (f r).rework = r.rework + 1) (hd : ∀ r, (f r).dose = r.dose)
    (hp : ∀ r, (f r).drip = r.drip) (ht : ∀ r, (f r).tallies = r.tallies) (h : Kept s t) :
    Kept s (t.modRecord b.serial f) := by
  refine .modRecordOf (fun hrs r hmem he => ⟨(hs r).trans he, ?_⟩) h
  have hrb : r = b := hrs.eq_of_serial hmem hb he
  subst hrb
  have w := hrs.each r hmem
  exact ⟨by rw [hs]; exact w.serial, by rw [hr]; exact hw, by rw [hd]; exact w.dose, by rw [hp]; exact w.drip,
    by rw [ht]; exact w.tallies⟩

theorem disposeRespray {areas : FlagSet 12} (hb : b ∈ t.records) (hw : b.rework < 2)
    (hq : (t.lane l).ctl.queue.length < 4) (h : Kept s t) : Kept s (t.disposeRespray b l areas) := by
  refine .retryBlocked (.joinQueue (by simpa using hq) (.rework hb hw ?_ ?_ ?_ ?_ ?_ (.removeHold h)))
  all_goals exact fun _ => rfl

theorem disposeRecure (hb : b ∈ t.records) (hw : b.rework < 2) (h : Kept s t) : Kept s (t.disposeRecure b) := by
  refine .retryBlocked (.reevaluateStation (.enterStation (.rework hb hw ?_ ?_ ?_ ?_ ?_ (.removeHold h))))
  all_goals exact fun _ => rfl

theorem escalate {e : HoldEntry} (h : Kept s t) : Kept s (t.escalate n e l) :=
  .raise (.addReason (.setHolds (by simp) h))

/-! ### The oven (R154 to R164) -/

/-- A change of one zone that keeps its age in range. -/
theorem setZone {z : Fin 6} {x : Zone} (hx : t.oven.zones[z].age ≤ 10000 → x.age ≤ 10000) (h : Kept s t) :
    Kept s { t with oven := { t.oven with zones := t.oven.zones.set z x } } := by
  refine .setOven (fun o => { o with ages := fun i => ?_ }) h
  by_cases hi : i = z
  · subst hi
    simpa using hx (o.ages i)
  · simpa [Vector.getElem_set, Fin.val_ne_of_ne (Ne.symm hi)] using o.ages i

theorem makeStale {z : Fin 6} (h : Kept s t) : Kept s (t.makeStale z) := .raise (.setZone id h)

theorem judgeZones {zs : List (Fin 6)} (h : Kept s t) : Kept s (t.judgeZones zs) := by
  induction zs generalizing t with
  | nil => exact h
  | cons z rest ih => exact ih (.ite (fun _ => .makeStale h) fun _ => h)

theorem setLayout {y : Option Layout} (h : Kept s t) : Kept s { t with oven := { t.oven with layout := y } } :=
  .setOven (fun o => { o with }) h

theorem sensorWaiting (h : Kept s t) : Kept s t.sensorWaiting := .setOven (fun o => { o with }) h

theorem judgeSensor {d : List Byte} (h : Kept s t) : Kept s (t.judgeSensor d) := by
  unfold State.judgeSensor
  split
  · exact h
  · exact .ite (fun _ => .setZone (fun _ => Nat.zero_le _) h) fun _ => h

theorem sensorByte {c : Byte} {stop : Bool} (h : Kept s t) : Kept s (t.sensorByte c stop) :=
  .ite (fun _ => .sensorWaiting h) fun _ => .ite (fun _ => h) fun _ =>
    .ite (fun _ => .setOven (fun o => { o with }) h) fun _ => .judgeSensor (.sensorWaiting h)

/-- R159: the positions saturate, and their order stays. -/
theorem advance {pitch : Nat} (h : Kept s t) : Kept s { t with oven := t.oven.advance pitch } := by
  refine .setOven (fun o => ?_) h
  obtain ⟨hcount, hgranted, hpositions, hordered, hages⟩ := o
  have hlen : (t.oven.advance pitch).queue.length = t.oven.queue.length := List.length_map _
  constructor
  · exact hlen.trans_le hcount
  · exact fun hg => hlen.trans_lt (hgranted hg)
  · intro e he
    obtain ⟨x, -, rfl⟩ := List.mem_map.1 he
    have := satAdd_le (2 ^ 32 - 1) x.position pitch
    dsimp only
    omega
  · refine List.pairwise_map.2 (hordered.imp fun hle => ?_)
    simp only [satAdd]
    omega
  · exact hages

theorem restartDose (h : Kept s t) : Kept s t.restartDose :=
  .setOven (fun o => ⟨o.count, o.granted, o.positions, o.ordered, o.ages⟩) h

theorem doseAll {es : List OvenEntry} (h : Kept s t) : Kept s (t.doseAll es) := by
  induction es generalizing t with
  | nil => exact h
  | cons e rest ih => exact ih (.modRecord (fun r => doseBoard_within _ _ r) h)

/-- A record replaced by a judgement of it. -/
theorem replaceRecord {c : BoardRecord} (hb : t.record? n = some b)
    (hc : c.serial = b.serial ∧ (b.Within → c.Within)) (h : Kept s t) : Kept s (t.modRecord n fun _ => c) :=
  .modRecordOf (fun hr _ _ _ => ⟨hc.1.trans (record?_serial t n b hb), hc.2 (hr.record? hb)⟩) h

theorem judgeExit (hb : t.record? b.serial = some b) (h : Kept s t) : Kept s (t.judgeExit b) :=
  .ite (fun _ => .ovenHold (.replaceRecord hb (judgeDose_within _ b) h)) fun _ => .raise (.removeRecord h)

theorem popHead {e : OvenEntry} {rest : List OvenEntry} (hq : t.oven.queue = e :: rest) (h : Kept s t) :
    Kept s (t.popHead e rest) := by
  have hpop : Kept s { t with oven := { t.oven with queue := rest } } := by
    refine .setOven (fun o => ?_) h
    obtain ⟨hcount, hgranted, hpositions, hordered, hages⟩ := o
    simp only [hq, List.length_cons, List.mem_cons, forall_eq_or_imp, List.pairwise_cons] at *
    exact ⟨by simp; omega, fun hg => by have := hgranted hg; simp; omega, hpositions.2, hordered.2, hages⟩
  unfold State.popHead
  dsimp only
  split
  · exact hpop
  · rename_i b hb
    exact .judgeExit (by rwa [record?_serial _ _ _ hb]) hpop

/-! ### Metering (R69, R124 to R136) -/

theorem countDeviation (h : Kept s t) : Kept s (t.countDeviation l) :=
  .ite (fun _ => .raise (.modCtl (fun hc => { hc with nozzle := satAdd_le .. }) h))
    fun _ => .modCtl (fun hc => { hc with nozzle := satAdd_le .. }) h

theorem handOver {seg : Segment} {p k : Nat} (h : Kept s t) : Kept s (t.handOver l seg p k) := by
  unfold State.handOver
  split
  · exact h
  · have htally (b : BoardRecord) (v : Nat) : Kept s (t.modRecord b.serial fun r =>
        { r with tallies := r.tallies.set seg.area (satAdd (2 ^ 32 - 1) r.tallies[seg.area] v) }) :=
      .modRecord (fun r => ⟨rfl, tally_within seg.area v r⟩) h
    exact .ite (fun _ => .countDeviation (.addReason (htally _ _))) fun _ => htally _ _

theorem handOverAll {segs : List Segment} (h : Kept s t) : Kept s (t.handOverAll l segs) := by
  induction segs generalizing t with
  | nil => exact h
  | cons seg rest ih => exact ih (.handOver h)

theorem enterExitWait (h : Kept s t) : Kept s (t.enterExitWait l b) :=
  .setGate (by simpa using .inl) (.setLaneState (.modRecord (fun _ => ⟨rfl, fun w => { w with }⟩) h))

theorem judgePass (h : Kept s t) : Kept s (t.judgePass l n) := by
  unfold State.judgePass
  split
  · exact h
  · rename_i b hb
    have hjudged := Kept.replaceRecord hb (judgeFilm_within (t.recipe b.slot).areasD b) h
    exact .ite (fun _ => .laneHold hjudged) fun _ => .enterExitWait hjudged

theorem boardDrip (h : Kept s t) : Kept s (t.boardDrip l) := by
  unfold State.boardDrip
  split
  · exact h
  · exact .modRecord (fun r => dripOn_within _ r) h

theorem idleDrip (h : Kept s t) : Kept s (t.idleDrip l) :=
  .modMeter (fun hm => { hm with idle := satAdd_le .. }) h

theorem segmentPulse (h : Kept s t) : Kept s (t.segmentPulse l) :=
  .modMeter (fun hm => { hm with pulses := satAdd_le .. }) h

/-- R124: a pulse is counted to the segment, the board or the lane. -/
theorem flowPulse (h : Kept s t) : Kept s (t.flowPulse l) := by
  unfold State.flowPulse
  split
  · exact .segmentPulse h
  · exact .segmentPulse h
  · exact .boardDrip h
  · exact .boardDrip h
  · exact .boardDrip h
  · exact .boardDrip h
  · exact .idleDrip h

/-! ### The path (R110 to R119) -/

theorem raiseQueueEmpty (h : Kept s t) : Kept s (raiseQueueEmpty l t) :=
  .ite (fun _ => .raise h) fun _ => .raise (.setFreeCount h)

theorem judgeFall {before : Nat} (h : Kept s t) : Kept s (t.judgeFall l before) := by
  have hlow : ∀ c : Prop, [Decidable c] → Kept s (if c then Machine.raise (queueLowKind l) (some l) (t.boardSerial l)
      (t.lane l).path.unexecuted t else t) := fun c _ => .ite (fun _ => .raise h) fun _ => h
  exact .ite (fun _ => .ite (fun _ => .raiseQueueEmpty (hlow _)) fun _ => hlow _) fun _ => h

/-- R101, R119: the path settled keeps its queue or empties it. -/
theorem settlePath (h : Kept s t) : Kept s (t.modPath l PathExec.settled) := by
  refine .modPath (fun hq => ?_) h
  unfold PathExec.settled
  split
  · exact hq
  · exact Nat.zero_le _

theorem sprayEnd (h : Kept s t) : Kept s (t.sprayEnd l) := by
  unfold State.sprayEnd
  split
  · exact h
  · exact .reevaluateExit (.settlePath (.judgePass
      (.modRecord (fun _ => ⟨rfl, fun w => { w with }⟩) (.modPath id h))))

theorem startGap (h : Kept s t) : Kept s (t.startGap l) := by
  unfold State.startGap
  exact .modPath id h

theorem afterOutcome (h : Kept s t) : Kept s (t.afterOutcome l) := .ite (fun _ => .sprayEnd h) fun _ => .startGap h

theorem finishSegment (h : Kept s t) : Kept s (t.finishSegment l) := by
  unfold State.finishSegment
  refine .afterOutcome (.judgeFall (.modPath id ?_))
  split
  · exact .handOver h
  · exact h

theorem enterClosing {seg : Segment} {k : Nat} (h : Kept s t) : Kept s (t.enterClosing l seg k) :=
  .ite (fun _ => .finishSegment (.modPath id h)) fun _ => .modPath id h

theorem coatBoard (h : Kept s t) : Kept s (t.coatBoard l) := by
  unfold State.coatBoard
  split
  · exact h
  · exact .modRecord (fun _ => ⟨rfl, fun w => { w with }⟩) h

theorem endOpenDelay {seg : Segment} (h : Kept s t) : Kept s (t.endOpenDelay l seg) :=
  .ite (fun _ => .finishSegment (.modPath id h)) fun _ => .coatBoard (.modPath id h)

theorem startSegment {seg : Segment} (h : Kept s t) : Kept s (t.startSegment l seg) := by
  have hstart : Kept s (t.modMeter l fun m => { m with segPulses := 0 }) :=
    .modMeter (fun hm => { hm with pulses := Nat.zero_le _ }) h
  exact .ite (fun _ => .endOpenDelay (.modPath id hstart)) fun _ => .modPath id hstart

theorem enterSpraying (h : Kept s t) : Kept s (t.enterSpraying l n) :=
  .ite (fun _ => .setLaneState (.modRecord (fun _ => ⟨rfl, fun w => { w with }⟩) h)) fun _ => h

theorem skipTo {k : Nat} (h : Kept s t) : Kept s (t.skipTo l n k) :=
  .ite (fun _ => .addReason (.modPath id (.handOverAll h))) fun _ => h

theorem takeStrobe {k : Nat} (h : Kept s t) : Kept s (t.takeStrobe l k) := by
  unfold State.takeStrobe
  split
  · exact h
  · refine .ite (fun _ => .raise h) fun _ => ?_
    dsimp only
    split
    · exact .afterOutcome (.judgeFall (.addReason (.modPath id (.skipTo (.enterSpraying h)))))
    · exact .ite (fun _ => .afterOutcome (.judgeFall (.modPath id (.handOver (.skipTo (.enterSpraying h))))))
        fun _ => .startSegment (.judgeFall (.skipTo (.enterSpraying h)))

theorem serveStart (h : Kept s t) : Kept s (t.serveStart l) := by
  unfold State.serveStart
  split
  · exact h
  · have hfreed : Kept s (t.modStation l fun st => { st with startSlot := none }) :=
      .modStation (fun hst => { hst with }) h
    dsimp only
    split
    · exact .ite (fun _ => .takeStrobe hfreed) fun _ => h
    · exact .ite (fun _ => .takeStrobe hfreed) fun _ => h
    · exact .raise hfreed

theorem serveEnd (h : Kept s t) : Kept s (t.serveEnd l) := by
  unfold State.serveEnd
  split
  · exact h
  · have hfreed : Kept s (t.modStation l fun st => { st with endSlot := none }) :=
      .modStation (fun hst => { hst with }) h
    refine .ite (fun _ => ?_) fun _ => hfreed
    split
    · exact .serveStart (.enterClosing hfreed)
    · exact .serveStart (.enterClosing hfreed)
    · exact hfreed

theorem dropPhase (h : Kept s t) : Kept s (t.dropPhase l) := .modPath id h

theorem gapExpired (h : Kept s t) : Kept s (t.gapExpired l) := by
  unfold State.gapExpired
  dsimp only
  split
  · exact .sprayEnd (.addReason (.modPath id (.handOverAll (.modPath id h))))
  · exact .modPath id h

/-! ### The Mask Checker (R88 to R95, R112) -/

theorem enterArmed (h : Kept s t) : Kept s (t.enterArmed l n) :=
  .modPath id (.setLaneState (.modRecord (fun _ => ⟨rfl, fun w => { w with }⟩) h))

theorem pathCheck (h : Kept s t) : Kept s (t.pathCheck l b) :=
  .ite (fun _ => .laneHold (.addReason h)) fun _ => .enterArmed h

theorem ruling (h : Kept s t) : Kept s (t.ruling l) := by
  unfold State.ruling
  split
  · exact h
  · exact .ite (fun _ => .laneHold (.modRecord (fun _ => ⟨rfl, fun w => { w with }⟩) h)) fun _ => .pathCheck h

theorem discardReadings (h : Kept s t) : Kept s (t.discardReadings l) := by
  unfold State.discardReadings
  exact .modChecker (fun hm => { hm with late := satAdd_le .. })
    (.modStation (fun hst => { hst with readings := Nat.zero_le _ }) h)

theorem endCheck (h : Kept s t) : Kept s (t.endCheck l) := by
  have hended : Kept s ((t.discardReadings l).modChecker l MaskChecker.stopped) :=
    .modChecker (fun hm => { hm with }) (.discardReadings h)
  exact .ite (fun _ => .ruling hended) fun _ => hended

theorem readCheckSlot {rd : Reading} {k : Fin 16} {notice : Bool} (h : Kept s t) :
    Kept s (t.readCheckSlot l b rd k notice) := by
  have hwritten := Kept.modRecord (n := b.serial)
    (f := fun r => { r with verdicts := r.verdicts.set k (combine r.verdicts[k] rd.result) })
    (fun _ => ⟨rfl, fun w => { w with }⟩) h
  exact .ite (fun _ => .raise hwritten) fun _ => hwritten

theorem takeReading (h : Kept s t) : Kept s (t.takeReading l) := by
  unfold State.takeReading
  split
  · rename_i rd rest b hq hb
    refine .ite (fun _ => ?_) fun _ => h
    have htaken : Kept s ((t.modStation l fun st => { st with inspectQueue := rest }).modChecker l fun m =>
        { m with ready := false, paceTimer := some (after t.clock 1) }) := by
      refine .modChecker (fun hm => { hm with }) (.modStation (fun hst => { hst with readings := ?_ }) h)
      have := hst.readings
      rw [hq, List.length_cons] at this
      exact Nat.le_of_succ_le this
    dsimp only
    split
    · exact .endCheck htaken
    · exact .modChecker (fun hm => { hm with unmapped := satAdd_le .. }) htaken
    · exact .readCheckSlot htaken
  · exact h

theorem serveInspect (h : Kept s t) : Kept s (t.serveInspect l) :=
  .ite (fun _ => .takeReading h) fun _ => .discardReadings h

theorem paceExpired (h : Kept s t) : Kept s (t.paceExpired l) :=
  .ite (fun _ => .takeReading (.modChecker (fun hm => { hm with }) h))
    fun _ => .modChecker (fun hm => { hm with }) h

/-! ### The Station Ports (R75 to R82) -/

theorem countLoss {slot : StationSlot} (h : Kept s t) : Kept s (t.modStation l fun st => st.countLoss slot) := by
  refine .modStation (fun hst => ⟨?_, ?_⟩) h
  · cases slot <;> exact hst.readings
  · obtain ⟨hs, he, hi, hb⟩ := hst.overruns
    cases slot with
    | startSlot => exact ⟨satAdd_le .., he, hi, hb⟩
    | endSlot => exact ⟨hs, satAdd_le .., hi, hb⟩
    | inspectSlot => exact ⟨hs, he, satAdd_le .., hb⟩
    | boardSlot => exact ⟨hs, he, hi, satAdd_le ..⟩

theorem addBoardReason {r : Reason} (h : Kept s t) : Kept s (t.addBoardReason l r) := by
  unfold State.addBoardReason
  split
  · exact h
  · exact .addReason h

theorem loseRecord {slot : StationSlot} (h : Kept s t) : Kept s (t.loseRecord l slot n) := by
  cases slot with
  | startSlot => exact .ite (fun _ => .addBoardReason (.countLoss h)) fun _ => .countLoss (slot := .startSlot) h
  | endSlot => exact .countLoss (slot := .endSlot) h
  | inspectSlot => exact .ite (fun _ => .addBoardReason (.countLoss h)) fun _ => .countLoss (slot := .inspectSlot) h
  | boardSlot => exact .raise (.countLoss (slot := .boardSlot) h)

theorem endEject (h : Kept s t) : Kept s (t.endEject l) := .enterIdle (.modCtl (fun hc => { hc with }) h)

theorem serveBoard (h : Kept s t) : Kept s (t.serveBoard l) := by
  unfold State.serveBoard
  split
  · have hfreed : Kept s (t.modStation l fun st => { st with boardSlot := none }) :=
      .modStation (fun hst => { hst with }) h
    exact .ite (fun _ => .endEject hfreed) fun _ => hfreed
  · exact .serveArrived h
  · exact h

theorem enterSlot {slot : StationSlot} {d : List Byte} (h : Kept s t) : Kept s (t.enterSlot l slot d) := by
  cases slot with
  | startSlot =>
    exact .ite (fun _ => .loseRecord h) fun _ => .serveStart (.modStation (fun hst => { hst with }) h)
  | endSlot =>
    exact .ite (fun _ => .loseRecord h) fun _ => .serveEnd (.modStation (fun hst => { hst with }) h)
  | inspectSlot =>
    refine .ite (fun _ => .loseRecord h) fun hroom => .serveInspect (.modStation (fun hst => ?_) h)
    refine { hst with readings := ?_ }
    rw [List.length_append, List.length_singleton]
    omega
  | boardSlot =>
    exact .ite (fun _ => .loseRecord h) fun _ => .serveBoard (.modStation (fun hst => { hst with }) h)

theorem setAssembler {slot : StationSlot} {a : Assembler} (h : Kept s t) :
    Kept s (t.modStation l fun st => st.setAssembler slot a) :=
  .modStation (fun hst => by cases slot <;> exact ⟨hst.readings, hst.overruns⟩) h

theorem stationByte {slot : StationSlot} {c : Byte} (h : Kept s t) : Kept s (t.stationByte l slot c) :=
  .ite (fun _ => .enterSlot (.setAssembler h)) fun _ => .setAssembler h

/-! ### Lane commands (R59, R60, R66, R68, R71) -/

theorem disableLane (h : Kept s t) : Kept s (t.disableLane l) := by
  unfold State.disableLane
  split
  · exact h
  · exact .serveArrived (.modCtl (fun hc => { hc with }) h)
  · exact .modCtl (fun hc => { hc with }) h

theorem clearLane (h : Kept s t) : Kept s (t.clearLane l) :=
  .modLane (fun hw => { hw with readings := Nat.zero_le _, loaded := Nat.zero_le _, pulses := Nat.zero_le _ })
    (.setGate (by simpa using .inl) h)

theorem abortBoard (h : Kept s t) : Kept s (t.abortBoard l b) :=
  .ite (fun hf => .grantHold hf (.addReason h)) fun _ => .overflow h

theorem resetLane (h : Kept s t) : Kept s (t.resetLane l) := by
  by_cases hg : t.gate.grant = some (.lane l)
  · have hw : Kept s { t.clearLane l with gate := { (t.clearLane l).gate with grant := none, transferTimer := none } } :=
      .setGate nofun (.clearLane h)
    cases hb : t.board l with
    | none => simpa [State.resetLane, hg, hb] using Kept.reevaluate hw
    | some b => simpa [State.resetLane, hg, hb] using Kept.reevaluate (Kept.abortBoard hw)
  · cases hb : t.board l with
    | none => simpa [State.resetLane, hg, hb] using Kept.clearLane h
    | some b => simpa [State.resetLane, hg, hb] using Kept.abortBoard (Kept.clearLane h)

theorem configureLane {c : LaneSettings} (hc : c.inRange = true) (h : Kept s t) : Kept s (t.configureLane l c) :=
  .ite (fun _ => .raise (.modCtl (fun hx => { hx with settings := hc }) h))
    fun _ => .modCtl (fun hx => { hx with settings := hc }) h

theorem ejectExpired (h : Kept s t) : Kept s (t.ejectExpired l) :=
  .ite (fun _ => .raise (.setLaneState (.modCtl (fun hc => { hc with }) h)))
    fun _ => .modCtl (fun hc => { hc with }) h

theorem emptyQueue (h : Kept s t) : Kept s (t.emptyQueue l) :=
  .modCtl (fun hc => { hc with announced := Nat.zero_le _ }) h

end Kept

end Sys2Proof.Machine
end

section
/-!
The rows of frames, and the answer of each: a frame is taken as the row whose own frame it is (O3), and every row that is
taken from a frame runs one answer, which depends on its port, KIND and payload alone.
-/

namespace Sys2Proof.Machine

open Sys2Proof

/-! ### The row of a frame -/

theorem frameOf_readRecipeRow (p : Port) (tag : Byte) (d : List Byte) :
    frameOf (readRecipeRow p tag d) = some (p, ⟨0x21#8, tag, d⟩) := by
  unfold readRecipeRow
  split
  · rfl
  · split <;> rfl

theorem frameOf_disposeRow (p : Port) (tag : Byte) (d : List Byte) :
    frameOf (disposeRow p tag d) = some (p, ⟨0x60#8, tag, d⟩) := by
  unfold disposeRow
  split
  · rfl
  · split
    · rfl
    · split <;> rfl

/-- A frame is spelt by the number of its KIND. -/
theorem frame_of_kind (p : Port) {f : Frame} {n : Nat} (h : f.kind.toNat = n) :
    some (p, (⟨BitVec.ofNat 8 n, f.tag, f.payload⟩ : Frame)) = some (p, f) := by
  cases f
  subst h
  simp

theorem frameOf_commandOf (p : Port) (f : Frame) : frameOf (commandOf p f) = some (p, f) := by
  unfold commandOf
  split
  case h_13 h => exact (frameOf_readRecipeRow ..).trans (frame_of_kind p h)
  case h_30 h => exact (frameOf_disposeRow ..).trans (frame_of_kind p h)
  case h_31 => rfl
  all_goals exact frame_of_kind p ‹_›

theorem wellFormed_of_frameOf {i : Instr} {p : Port} {f : Frame} (h : frameOf i = some (p, f)) :
    i.wellFormed = (f.fits && decide (commandOf p f = i)) := by
  cases i <;> cases h <;> rfl

end Sys2Proof.Machine

/-- Settles O3: each KIND names its row, and READ_RECIPE's and DISPOSE's rows keep the KIND they share. -/
theorem Sys2Proof.commandSpellsItsFrame : Obligations.CommandSpellsItsFrame := by
  intro p f
  refine ⟨Machine.frameOf_commandOf p f, fun hlen => ?_⟩
  rw [Machine.wellFormed_of_frameOf (Machine.frameOf_commandOf p f)]
  simpa [Frame.fits] using hlen

namespace Sys2Proof.Machine

open Sys2Proof

/-! ### The answer to a frame -/

/-- What the part answers to a frame taken on port `p` (01 table 1.4). -/
def commandAnswer (p : Port) (f : Frame) (s : State) : Answer :=
  match f.kind.toNat with
  | 0x01 => identifyAnswer f.payload s
  | 0x02 => getStatusAnswer f.payload s
  | 0x03 => getEventsAnswer p f.payload s
  | 0x04 => ackEventsAnswer p f.payload s
  | 0x05 => setNoticeMaskAnswer p f.payload s
  | 0x06 => getBoardAnswer f.payload s
  | 0x07 => listHoldsAnswer f.payload s
  | 0x10 => setLineConfigAnswer p f.payload s
  | 0x11 => setLaneConfigAnswer p f.payload s
  | 0x12 => setOvenLayoutAnswer p f.payload s
  | 0x13 => ovenAcceptAnswer p f.payload s
  | 0x20 => writeRecipeAnswer p f.payload s
  | 0x21 => readRecipeAnswer p f.payload s
  | 0x22 => bindAliasAnswer p f.payload s
  | 0x23 => unbindAliasAnswer p f.payload s
  | 0x24 => writeFeatureMapAnswer p f.payload s
  | 0x25 => clearRecipesAnswer p f.payload s
  | 0x30 => laneEnableAnswer p f.payload s
  | 0x31 => laneDisableAnswer f.payload s
  | 0x32 => laneResetAnswer p f.payload s
  | 0x33 => lineResetAnswer p f.payload s
  | 0x34 => clearNozzleAnswer p f.payload s
  | 0x40 => announceAnswer p f.payload s
  | 0x41 => withdrawAnswer p f.payload s
  | 0x50 => pathBeginAnswer p f.payload s
  | 0x51 => segmentsAnswer p f.payload s
  | 0x52 => pathEndAnswer p f.payload s
  | 0x53 => pathKeepAnswer p f.payload s
  | 0x54 => pathDiscardAnswer p f.payload s
  | 0x60 => disposeAnswer p f.payload s
  | _ => refuse .badKind s

/-- R4 check 1: a KIND that is no command kind is answered BAD_KIND. -/
theorem commandAnswer_of_badKind (p : Port) (f : Frame) (h : isCommandKind f.kind = false) :
    commandAnswer p f = refuse .badKind := by
  funext s
  unfold commandAnswer
  split
  case h_31 => rfl
  all_goals
    rename_i hk
    simp [isCommandKind, hk] at h

/-- A row that is taken from a frame runs that frame's answer; BAD_KIND_COMMAND of a command kind is no occurrence. -/
theorem exec_of_frameOf {i : Instr} {p : Port} {f : Frame} (h : frameOf i = some (p, f)) (s : State) :
    exec i s = .next (takeCommand p f (commandAnswer p f) s) ∨
      exec i s = .next s ∧ i = .badKindCommand p f.kind f.tag f.payload ∧ isCommandKind f.kind = true := by
  cases i
  case badKindCommand q k t d =>
    cases h
    cases hk : isCommandKind k with
    | true => exact .inr ⟨by simp [exec, execBadKindCommand, hk], rfl, rfl⟩
    | false => exact .inl (by simp [exec, execBadKindCommand, hk, commandAnswer_of_badKind])
  all_goals cases h <;> exact .inl rfl

/-- A command kind has a row of its own. -/
theorem commandOf_ne_badKind (p : Port) (f : Frame) (h : isCommandKind f.kind = true) (k t : Byte) (d : List Byte) :
    commandOf p f ≠ .badKindCommand p k t d := by
  unfold commandOf
  split
  case h_13 =>
    unfold readRecipeRow
    split_ifs <;> exact nofun
  case h_30 =>
    unfold disposeRow
    split_ifs <;> exact nofun
  case h_31 => simp_all [isCommandKind]
  all_goals exact nofun

/-- Taking a frame runs its answer (R4). -/
theorem exec_commandOf (p : Port) (f : Frame) (s : State) :
    exec (commandOf p f) s = .next (takeCommand p f (commandAnswer p f) s) := by
  rcases exec_of_frameOf (frameOf_commandOf p f) s with h | ⟨_, hi, hk⟩
  · exact h
  · exact (commandOf_ne_badKind p f hk _ _ _ hi).elim

end Sys2Proof.Machine
end

section
/-!
The Recipe Store stays sound, and every command's answer keeps the bounds; a refused one, PATH_BEGIN's apart, leaves the
state as it found it.
-/

namespace Sys2Proof.Machine

open Sys2Proof

/-! ### Fields read one by one -/

/-- Reading every item of a list: each result is the reading of its item. -/
theorem mapM_some_iff {α β : Type} {f : α → Option β} {as : List α} {bs : List β} :
    as.mapM f = some bs ↔ List.Forall₂ (fun a b => f a = some b) as bs := by
  induction as generalizing bs with
  | nil => simp [eq_comm]
  | cons a as ih =>
    rw [List.mapM_cons, List.forall₂_cons_left_iff]
    cases hf : f a with
    | none => simp
    | some b =>
      cases hm : as.mapM f with
      | none =>
        have hno : ∀ cs, ¬ List.Forall₂ (fun a b => f a = some b) as cs := fun cs h => by
          have := ih.2 h
          rw [hm] at this
          cases this
        simp [hno]
      | some cs =>
        have hcs : ∀ ds, List.Forall₂ (fun a b => f a = some b) as ds ↔ cs = ds := fun ds => by
          rw [← ih, hm, Option.some.injEq]
        simp [hcs, eq_comm]

/-- Reading a list fails where the reading of one of its items does. -/
theorem mapM_none_iff {α β : Type} {f : α → Option β} {as : List α} :
    as.mapM f = none ↔ ∃ a ∈ as, f a = none := by
  induction as with
  | nil => simp
  | cons a as ih =>
    rw [List.mapM_cons]
    cases hf : f a with
    | none => simp [hf]
    | some b =>
      cases hm : as.mapM f with
      | none => simpa [hf] using ih.1 hm
      | some cs =>
        have hall : ∀ x ∈ as, f x ≠ none := fun x hx hn => by
          have := ih.2 ⟨x, hx, hn⟩
          rw [hm] at this
          cases this
        simpa [hf] using hall

theorem length_of_mapM {α β : Type} {f : α → Option β} {as : List α} {bs : List β} (h : as.mapM f = some bs) :
    bs.length = as.length := (mapM_some_iff.1 h).length_eq.symm

theorem exists_of_mapM {α β : Type} {f : α → Option β} {as : List α} {bs : List β} (h : as.mapM f = some bs) {b : β}
    (hb : b ∈ bs) : ∃ a ∈ as, f a = some b := by
  have h2 := mapM_some_iff.1 h
  induction h2 with
  | nil => simp at hb
  | cons hab _ ih =>
    rcases List.mem_cons.1 hb with rfl | hb
    · exact ⟨_, List.mem_cons_self, hab⟩
    · obtain ⟨a, ha, hf⟩ := ih (mapM_some_iff.2 ‹_›) hb
      exact ⟨a, List.mem_cons_of_mem _ ha, hf⟩

theorem word16At_lt (d : List Byte) (i : Nat) : word16At d i < 65536 := by
  have h1 := (byteAt d i).isLt
  have h2 := (byteAt d (i + 1)).isLt
  unfold word16At
  omega

theorem word32At_lt (d : List Byte) (i : Nat) : word32At d i < 2 ^ 32 := by
  have h1 := word16At_lt d i
  have h2 := word16At_lt d (i + 2)
  unfold word32At
  omega

theorem recordsWithin_nil : RecordsWithin [] := ⟨Nat.zero_le _, List.nodup_nil, by simp⟩

/-! ### The Recipe Store (R19 to R31) -/

/-- R22: cutting a map to a smaller count leaves no entry at or beyond it. -/
theorem cutMap_named (count : Nat) (m : Vector MapEntry 256) (i : Fin 256) (k : Fin 16) (f : Bool)
    (h : (cutMap count m)[i] = .checkSlot k f) : k.val < count := by
  simp only [cutMap, Fin.getElem_fin, Vector.getElem_ofFn] at h
  split at h
  · split at h
    · cases h
      assumption
    · cases h
  · rename_i hne
    exact absurd h (hne k f)

/-- R22: cutting a map leaves the END where it was. -/
theorem cutMap_ending (count : Nat) (m : Vector MapEntry 256) (i : Fin 256) :
    (cutMap count m)[i] = .endMark ↔ m[i] = .endMark := by
  simp only [cutMap, Fin.getElem_fin, Vector.getElem_ofFn]
  cases m[i.val] with
  | none => exact ⟨nofun, nofun⟩
  | checkSlot k f =>
    refine ⟨fun h => ?_, nofun⟩
    dsimp only at h
    split at h <;> cases h
  | endMark => exact ⟨fun _ => rfl, fun _ => rfl⟩

/-- A slot with another map, which has its END at code 255 and names check slots below the count. -/
theorem RecipeSlot.Sound.setMap {r : RecipeSlot} {m : Vector MapEntry 256} (hr : r.Sound)
    (ending : ∀ i : Fin 256, m[i] = .endMark ↔ i.val = 255)
    (named : ∀ (i : Fin 256) (k : Fin 16) (f : Bool), m[i] = .checkSlot k f → k.val < r.featuresD.length) :
    RecipeSlot.Sound { r with map := m } := ⟨hr.areas, hr.features, hr.edits, ending, named⟩

theorem withFeatures_sound {r : RecipeSlot} {cs : List CheckClass} (hr : r.Sound) (hc : cs.length ≤ 16) :
    (r.withFeatures cs).Sound := by
  refine { hr with features := hc, ending := fun i => ?_, named := fun i k f h => ?_ }
  · unfold RecipeSlot.withFeatures
    dsimp only
    split
    · exact (cutMap_ending ..).trans (hr.ending i)
    · exact hr.ending i
  · show k.val < cs.length
    unfold RecipeSlot.withFeatures at h
    dsimp only at h
    split at h
    · exact cutMap_named _ _ _ _ _ h
    · have := hr.named i k f h
      omega

/-- R19, R21, R22: an accepted section leaves the slot sound. -/
theorem written_sound {r r' : RecipeSlot} {c : SectionCode} {d : List Byte} (hr : r.Sound) (hok : countByteOk c d = true)
    (hw : r.written c d = some r') : r'.Sound := by
  cases c with
  | material =>
    obtain ⟨m, -, rfl⟩ := Option.map_eq_some_iff.1 hw
    exact { hr with }
  | areas =>
    obtain ⟨a, ha, rfl⟩ := Option.map_eq_some_iff.1 hw
    have hlen : a.length = (byteAt d 2).toNat := by simpa using length_of_mapM ha
    simp only [countByteOk, Bool.and_eq_true, decide_eq_true_eq] at hok
    refine { hr with areas := fun x hx => ?_ }
    cases hx
    omega
  | features =>
    obtain ⟨cs, hcs, rfl⟩ := Option.map_eq_some_iff.1 hw
    have hlen : cs.length = (byteAt d 2).toNat := by simpa using length_of_mapM hcs
    simp only [countByteOk, decide_eq_true_eq] at hok
    exact withFeatures_sound hr (by omega)
  | cure =>
    obtain ⟨x, -, rfl⟩ := Option.map_eq_some_iff.1 hw
    exact { hr with }
  | timing =>
    obtain ⟨x, -, rfl⟩ := Option.map_eq_some_iff.1 hw
    exact { hr with }

theorem edited_sound {r : RecipeSlot} (hr : r.Sound) : r.edited.Sound := { hr with edits := satAdd_le .. }

/-- R28: an entry a WRITE_FEATURE_MAP carries is no END, and names a check slot below the count. -/
theorem parseMapEntry_sound {count : Nat} {c f : Byte} {e : MapEntry} (h : parseMapEntry count c f = some e) :
    e ≠ .endMark ∧ ∀ k n, e = .checkSlot k n → k.val < count := by
  unfold parseMapEntry at h
  split at h
  · cases h
  · split at h
    · split at h
      · cases h
      · cases h
        exact ⟨nofun, nofun⟩
    · split at h
      · cases h
      · split at h
        · cases h
          exact ⟨nofun, fun k n he => by cases he; assumption⟩
        · cases h

/-- R28: a run of entries that ends at code 254 at the latest leaves the map sound. -/
theorem writeRun_sound {r : RecipeSlot} {first : Nat} {es : List MapEntry} (hr : r.Sound)
    (hlast : first + es.length ≤ 255)
    (hes : ∀ e ∈ es, e ≠ .endMark ∧ ∀ k n, e = .checkSlot k n → k.val < r.featuresD.length) :
    RecipeSlot.Sound { r with map := writeRun r.map first es } := by
  have hentry (i : Fin 256) : (writeRun r.map first es)[i] = r.map[i] ∨
      i.val ≠ 255 ∧ (writeRun r.map first es)[i] ∈ es := by
    simp only [writeRun, Fin.getElem_fin, Vector.getElem_ofFn]
    split
    · exact .inl rfl
    · by_cases hi : i.val - first < es.length
      · rw [List.getD_eq_getElem _ _ hi]
        exact .inr ⟨by omega, List.getElem_mem hi⟩
      · rw [List.getD_eq_default _ _ (by omega)]
        exact .inl rfl
  refine hr.setMap (fun i => ?_) fun i k f h => ?_
  · rcases hentry i with he | ⟨hne, hmem⟩
    · rw [he]
      exact hr.ending i
    · exact ⟨fun h => absurd h (hes _ hmem).1, fun h => absurd h hne⟩
  · rcases hentry i with he | ⟨_, hmem⟩
    · exact hr.named i k f (he.symm.trans h)
    · exact (hes _ hmem).2 k f h

/-- R30: re-pointing an alias changes no alias. -/
theorem repoint_aliases (t : List (Nat × Fin 8)) (a : Nat) (i : Fin 8) : (repoint t a i).map (·.1) = t.map (·.1) := by
  unfold repoint
  rw [List.map_map]
  refine List.map_congr_left fun e _ => ?_
  by_cases he : e.1 = a <;> simp [he]

/-- R29: the alias table is sound when its aliases are. -/
theorem RecipeStore.Sound.setAliases {st : RecipeStore} {t : List (Nat × Fin 8)} (h : st.Sound) (hlen : t.length ≤ 24)
    (hn : (t.map (·.1)).Nodup) (hr : ∀ a ∈ t.map (·.1), 1 ≤ a ∧ a ≤ 65535) :
    RecipeStore.Sound { st with aliasTable := t } :=
  ⟨h.slots, hlen, hn, fun e he => hr e.1 (List.mem_map_of_mem he)⟩

theorem RecipeStore.Sound.aliasRange {st : RecipeStore} (h : st.Sound) {a : Nat}
    (ha : a ∈ st.aliasTable.map (·.1)) : 1 ≤ a ∧ a ≤ 65535 := by
  obtain ⟨e, he, rfl⟩ := List.mem_map.1 ha
  exact h.range e he

theorem not_mem_aliases {t : List (Nat × Fin 8)} {a : Nat} (h : aliasSlot t a = none) : a ∉ t.map (·.1) := by
  intro hm
  obtain ⟨e, he, rfl⟩ := List.mem_map.1 hm
  simp only [aliasSlot, Option.map_eq_none_iff, List.find?_eq_none] at h
  exact h e he (by simp)

/-- R27: the map after a clear ends at code 255 and names no check slot. -/
theorem clearedMap_get (c : Fin 256) : clearedMap[c] = if c.val = 255 then .endMark else .none := by
  simp [clearedMap, Vector.getElem_set, eq_comm]

theorem cleared_sound : RecipeSlot.cleared.Sound := by
  have hentry : ∀ c : Fin 256, RecipeSlot.cleared.map[c] = _ := clearedMap_get
  refine ⟨nofun, Nat.zero_le _, Nat.zero_le _, fun i => ?_, fun i k f h => ?_⟩
  · rw [hentry]
    split <;> simp_all
  · rw [hentry] at h
    split at h <;> cases h

theorem store_reset_sound : RecipeStore.reset.Sound :=
  ⟨fun i => by simpa [RecipeStore.reset] using cleared_sound, Nat.zero_le _, List.nodup_nil, nofun⟩

namespace Kept

variable {s t u : State}

theorem setRecipe {i : Fin 8} {r : RecipeSlot} (hr : (t.recipe i).Sound → r.Sound) (h : Kept s t) :
    Kept s (t.setRecipe i r) := by
  refine .setStore (fun hs => { hs with slots := fun j => ?_ }) h
  by_cases hj : j = i
  · subst hj
    simpa using hr (hs.slots j)
  · simpa [Vector.getElem_set, Fin.val_ne_of_ne (Ne.symm hj)] using hs.slots j

/-- R30: an alias bound to another slot. -/
theorem repointAlias {a : Nat} {i : Fin 8} (h : Kept s t) :
    Kept s (t.setAliases (repoint t.store.aliasTable a i)) :=
  .setStore (fun hs => hs.setAliases (by simpa [repoint] using hs.entries) (by rw [repoint_aliases]; exact hs.once)
    fun x hx => hs.aliasRange (by rwa [repoint_aliases] at hx)) h

/-- R30: a new alias, 1 to 65 535, in a table with room. -/
theorem addAlias {a : Nat} {i : Fin 8} (hn : aliasSlot t.store.aliasTable a = none) (h1 : 1 ≤ a) (h2 : a ≤ 65535)
    (hroom : t.store.aliasTable.length < 24) (h : Kept s t) :
    Kept s (t.setAliases (t.store.aliasTable ++ [(a, i)])) := by
  refine .setStore (fun hs => hs.setAliases (by simpa using hroom) ?_ fun x hx => ?_) h
  · rw [List.map_append]
    exact List.Nodup.append hs.once (List.nodup_singleton a) (by simpa using not_mem_aliases hn)
  · rw [List.map_append, List.mem_append, List.map_singleton, List.mem_singleton] at hx
    rcases hx with hx | rfl
    · exact hs.aliasRange hx
    · exact ⟨h1, h2⟩

/-- R31: an alias removed. -/
theorem dropAlias {a : Nat} (h : Kept s t) :
    Kept s (t.setAliases (t.store.aliasTable.filter fun e => e.1 != a)) :=
  .setStore (fun hs => hs.setAliases ((List.length_filter_le _ _).trans hs.entries)
    (hs.once.sublist (List.filter_sublist.map _))
    fun _ hx => hs.aliasRange ((List.filter_sublist.map _).subset hx)) h

/-- R18: LINE_RESET empties what it does not keep. -/
theorem resetLine (h : Kept s t) : Kept s t.resetLine := by
  have hl : Kept s ((((t.clearLane .lane0).clearLane .lane1).emptyQueue .lane0).emptyQueue .lane1) :=
    .emptyQueue (.emptyQueue (.clearLane (.clearLane h)))
  refine ⟨fun p => ?_, hl.store, fun m => ?_, fun _ => recordsWithin_nil, fun _ => Nat.zero_le _,
    fun o => ⟨Nat.zero_le _, fun _ => Nat.zero_lt_succ _, nofun, List.Pairwise.nil, (hl.oven o).ages⟩, hl.settings⟩
  · cases p
    · exact (h.ports .line).trans (clearEvents_grows _)
    · exact (h.ports .bench).trans (clearEvents_grows _)
  · cases m
    · exact hl.lanes .lane0
    · exact hl.lanes .lane1

end Kept

end Sys2Proof.Machine
end

section
/-!
Every command's answer keeps the bounds; a refused one, PATH_BEGIN's apart (R105), leaves the state as it found it.
-/

namespace Sys2Proof.Machine

open Sys2Proof

/-- R4, R5: an answer keeps the bounds, and a refusal has no fields and no effect. -/
structure Answer.Lawful (a : Answer) (s : State) : Prop where
  kept : Kept s a.st
  refused : a.status ≠ .ok → a.status ≠ .clamped → a.data = [] ∧ a.st = s

namespace Answer.Lawful

variable {s t : State}

theorem refuse {e : Status} : (refuse e s).Lawful s := ⟨.refl s, fun _ _ => ⟨rfl, rfl⟩⟩

theorem accept {d : List Byte} (h : Kept s t) : (accept d t).Lawful s := ⟨h, fun hn => absurd rfl hn⟩

/-- A command carried out, CLAMPED or not. -/
theorem done {e : Status} {d : List Byte} (h : Kept s t) (he : e = .ok ∨ e = .clamped) : (Answer.mk e d t).Lawful s :=
  ⟨h, fun hn hc => (he.elim hn hc).elim⟩

theorem ite {c : Prop} [Decidable c] {a b : Answer} (h : c → a.Lawful s) (g : ¬c → b.Lawful s) :
    (if c then a else b).Lawful s := by
  split
  · exact h ‹_›
  · exact g ‹_›

/-- A check that refuses before the rest. -/
theorem orRefuse {c : Prop} [Decidable c] {e : Status} {b : Answer} (g : ¬c → b.Lawful s) :
    (if c then Machine.refuse e s else b).Lawful s := .ite (fun _ => .refuse) g

end Answer.Lawful

section Answers

variable (s : State) (p : Port) (d : List Byte)

/-! ### Identification, status, events, settings (chapter 01) -/

theorem identifyAnswer_lawful : (identifyAnswer d s).Lawful s := .orRefuse fun _ => .accept (.refl s)

theorem getStatusAnswer_lawful : (getStatusAnswer d s).Lawful s := .orRefuse fun _ => .accept (.refl s)

theorem getEventsAnswer_lawful : (getEventsAnswer p d s).Lawful s := by
  refine .orRefuse fun _ => .ite (fun _ => .accept (.refl s)) fun _ => ?_
  split
  · exact .refuse
  · exact .accept (.refl s)

/-- R12: clearing records leaves the counts of the others. -/
theorem ackAll_get (evs : Vector (Option EventRecord) 19) (ks : List (Fin 19)) (i : Fin 19) :
    (ackAll evs ks).1[i] = if i ∈ ks then none else evs[i] := by
  induction ks generalizing evs with
  | nil => simp [ackAll]
  | cons k rest ih =>
    rw [ackAll, ih]
    by_cases hi : i = k
    · subst hi
      simp
    · simp [hi, Fin.val_ne_of_ne (Ne.symm hi)]

theorem ackEventsAnswer_lawful : (ackEventsAnswer p d s).Lawful s := by
  refine .orRefuse fun _ => ?_
  split
  · exact .refuse
  · rename_i ks _
    refine .accept (.modPort ⟨rfl, ⟨[], by simp⟩, id, fun hc i r hr => hc i r ?_, rfl⟩ (.refl s))
    simp only [ackAll_get] at hr
    split at hr
    · cases hr
    · exact hr

theorem setMask_grows (ps : PortState) (m : FlagSet 19) : ps.GrowsTo { ps with mask := m } :=
  ⟨rfl, ⟨[], by simp⟩, id, id, rfl⟩

theorem setNoticeMaskAnswer_lawful : (setNoticeMaskAnswer p d s).Lawful s := by
  refine .orRefuse fun _ => ?_
  split
  · exact .refuse
  · exact .accept (.modPort (setMask_grows _ _) (.refl s))

theorem setLineConfigAnswer_lawful : (setLineConfigAnswer p d s).Lawful s := by
  refine .orRefuse fun _ => .orRefuse fun _ => ?_
  split
  · exact .refuse
  · exact .orRefuse fun hc => .accept (.reevaluate (.judgeZones (.setSettings (by simpa using hc) (.refl s))))

theorem lineResetAnswer_lawful : (lineResetAnswer p d s).Lawful s :=
  .orRefuse fun _ => .orRefuse fun _ => .accept (.resetLine (.refl s))

/-! ### Recipes (chapter 02) -/

theorem writeRecipeAnswer_lawful : (writeRecipeAnswer p d s).Lawful s := by
  refine .orRefuse fun _ => .orRefuse fun _ => ?_
  split
  · exact .refuse
  · refine .orRefuse fun hcount => .orRefuse fun _ => ?_
    split
    · exact .refuse
    · split
      · exact .refuse
      · rename_i hw
        refine .orRefuse fun _ => .orRefuse fun _ => .accept (.setRecipe (fun hr => ?_) (.refl s))
        exact edited_sound (written_sound hr (by simpa using hcount) hw)

theorem readRecipeAnswer_lawful : (readRecipeAnswer p d s).Lawful s := by
  refine .orRefuse fun _ => .orRefuse fun _ => ?_
  dsimp only
  split
  · exact .refuse
  · refine .orRefuse fun _ => .orRefuse fun _ => .ite (fun _ => .accept (.refl s)) fun _ =>
      .ite (fun _ => .accept (.refl s)) fun _ => ?_
    split
    · exact .refuse
    · exact .accept (.refl s)

theorem writeFeatureMapAnswer_lawful : (writeFeatureMapAnswer p d s).Lawful s := by
  refine .orRefuse fun _ => .orRefuse fun hlen => ?_
  split
  · exact .refuse
  · refine .orRefuse fun hlast => ?_
    split
    · exact .refuse
    · rename_i es hes
      refine .orRefuse fun _ => .orRefuse fun _ => .accept (.setRecipe (fun hr => ?_) (.refl s))
      have hcount : es.length = (d.length - 2) / 2 := by simpa using length_of_mapM hes
      refine edited_sound (writeRun_sound hr (by omega) fun e he => ?_)
      obtain ⟨i, -, hi⟩ := exists_of_mapM hes he
      exact parseMapEntry_sound hi

theorem bindAliasAnswer_lawful : (bindAliasAnswer p d s).Lawful s := by
  refine .orRefuse fun _ => .orRefuse fun _ => ?_
  dsimp only
  split
  · exact .refuse
  · refine .orRefuse fun ha => .orRefuse fun _ => ?_
    split
    · exact .accept (.repointAlias (.refl s))
    · rename_i hnone
      have hlt := word16At_lt d 0
      exact .ite (fun hroom => .accept (.addAlias hnone (by omega) (by omega) hroom (.refl s))) fun _ => .refuse

theorem unbindAliasAnswer_lawful : (unbindAliasAnswer p d s).Lawful s := by
  refine .orRefuse fun _ => .orRefuse fun _ => .orRefuse fun _ => .orRefuse fun _ => ?_
  split
  · exact .refuse
  · exact .accept (.dropAlias (.refl s))

theorem clearRecipesAnswer_lawful : (clearRecipesAnswer p d s).Lawful s :=
  .orRefuse fun _ => .orRefuse fun _ => .orRefuse fun _ => .orRefuse fun _ =>
    .accept (.setStore (fun hs => { hs with }) (.refl s))

/-! ### Boards (chapter 03) -/

/-- R40: a new record is within its widths. -/
theorem newRecord_within {n : Serial} (i : Fin 8) (l : LaneId) (areas : Nat) (h1 : 1 ≤ n) (h2 : n < 2 ^ 32) :
    (newRecord n i l areas).Within :=
  ⟨⟨h1, h2⟩, Nat.zero_le _, Nat.two_pow_pos 32, Nat.zero_le _, fun a => by simp [newRecord]⟩

/-- R39: a board of a new serial joins fewer than 32 records. -/
theorem RecordsWithin.add {rs : List BoardRecord} {b : BoardRecord} (h : RecordsWithin rs) (hb : b.Within)
    (hnew : ∀ r ∈ rs, r.serial ≠ b.serial) (hroom : rs.length < 32) : RecordsWithin (rs ++ [b]) := by
  refine ⟨by simpa using hroom, ?_, fun r hr => ?_⟩
  · rw [List.map_append]
    refine List.Nodup.append h.distinct (List.nodup_singleton _) ?_
    simpa using hnew
  · rcases List.mem_append.1 hr with hr | hr
    · exact h.each r hr
    · exact List.mem_singleton.1 hr ▸ hb

theorem serial_ne_of_record?_none {s : State} {n : Serial} (h : s.record? n = none) : ∀ r ∈ s.records, r.serial ≠ n := by
  simpa [State.record?] using h

theorem announceAnswer_lawful : (announceAnswer p d s).Lawful s := by
  refine .orRefuse fun _ => .orRefuse fun _ => ?_
  split
  · exact .refuse
  · rename_i l _
    refine .orRefuse fun hfields => .orRefuse fun _ => .orRefuse fun hnew => .orRefuse fun hroom => ?_
    split
    · exact .refuse
    · rename_i i _
      refine .orRefuse fun _ => .orRefuse fun _ => .orRefuse fun hq => .accept ?_
      have hnew : ∀ r ∈ s.records, r.serial ≠ word32At d 1 := serial_ne_of_record?_none (by simpa using hnew)
      have hw := newRecord_within i l (s.recipe i).areasD.length (by omega : 1 ≤ word32At d 1) (word32At_lt d 1)
      refine .joinQueue ?_ (.setRecords (fun hr => hr.add hw hnew (by omega)) (.refl s))
      cases l <;> exact Nat.lt_of_not_le hq

theorem withdrawAnswer_lawful : (withdrawAnswer p d s).Lawful s := by
  refine .orRefuse fun _ => .orRefuse fun _ => .orRefuse fun _ => ?_
  split
  · exact .refuse
  · exact .ite (fun _ => .accept (.removeRecord (.leaveQueue (.refl s)))) fun _ => .refuse

theorem getBoardAnswer_lawful : (getBoardAnswer d s).Lawful s := by
  refine .orRefuse fun _ => .orRefuse fun _ => ?_
  split
  · exact .refuse
  · exact .accept (.refl s)

/-! ### Lanes (chapter 04) -/

theorem laneEnableAnswer_lawful : (laneEnableAnswer p d s).Lawful s := by
  refine .orRefuse fun _ => .orRefuse fun _ => ?_
  split
  · exact .refuse
  · exact .orRefuse fun _ => .accept
      (.ite (fun _ => .enterIdle (.refl s)) fun _ => .modCtl (fun hc => { hc with }) (.refl s))

theorem laneDisableAnswer_lawful : (laneDisableAnswer d s).Lawful s := by
  refine .orRefuse fun _ => ?_
  split
  · exact .refuse
  · exact .accept (.disableLane (.refl s))

theorem laneResetAnswer_lawful : (laneResetAnswer p d s).Lawful s := by
  refine .orRefuse fun _ => .orRefuse fun _ => ?_
  split
  · exact .refuse
  · exact .accept (.resetLane (.refl s))

theorem setLaneConfigAnswer_lawful : (setLaneConfigAnswer p d s).Lawful s := by
  refine .orRefuse fun _ => .orRefuse fun _ => ?_
  split
  · exact .refuse
  · exact .orRefuse fun hc => .orRefuse fun _ => .accept (.configureLane (by simpa using hc) (.refl s))

theorem clearNozzleAnswer_lawful : (clearNozzleAnswer p d s).Lawful s := by
  refine .orRefuse fun _ => .orRefuse fun _ => ?_
  split
  · exact .refuse
  · refine .ite (fun _ => .accept ?_) fun _ => .refuse
    exact .modMeter (fun hm => { hm with idle := Nat.zero_le _ })
      (.modCtl (fun hc => { hc with nozzle := Nat.zero_le _ }) (.refl s))

/-! ### Paths (chapter 07) -/

theorem Kept.iteSt {s : State} {c : Prop} [Decidable c] {a b : Answer} (h : c → Kept s a.st) (g : ¬c → Kept s b.st) :
    Kept s (if c then a else b).st := by
  split
  · exact h ‹_›
  · exact g ‹_›

theorem Kept.accepted {s t : State} {d : List Byte} (h : Kept s t) : Kept s (accept d t).st := h

/-- R104, R105: even the refusal with an effect keeps the bounds. -/
theorem pathBeginAnswer_kept : Kept s (pathBeginAnswer p d s).st := by
  unfold pathBeginAnswer
  refine .iteSt (fun _ => .refl s) fun _ => .iteSt (fun _ => .refl s) fun _ => ?_
  split
  · exact .refl s
  · refine .iteSt (fun _ => .refl s) fun _ => .iteSt (fun _ => .refl s) fun _ => .iteSt (fun _ => .refl s) fun _ => ?_
    split
    · exact .refl s
    · refine .iteSt (fun _ => ?_) fun _ => .accepted (.modPath (fun _ => Nat.zero_le _) (.refl s))
      split
      · exact .refl s
      · exact .iteSt (fun _ => .accepted (.modPath (fun _ => Nat.zero_le _) (.refl s)))
          fun _ => .laneHold (.addReason (.refl s))

theorem segmentsAnswer_lawful : (segmentsAnswer p d s).Lawful s := by
  refine .orRefuse fun _ => .orRefuse fun _ => ?_
  split
  · exact .refuse
  · refine .orRefuse fun _ => ?_
    split
    · exact .refuse
    · rename_i segs reduced _
      refine .orRefuse fun hroom => .done (.modPath (fun _ => ?_) (.refl s)) ?_
      · rw [List.length_append]
        omega
      · cases reduced
        · exact .inl rfl
        · exact .inr rfl

theorem pathEndAnswer_lawful : (pathEndAnswer p d s).Lawful s := by
  refine .orRefuse fun _ => .orRefuse fun _ => ?_
  split
  · exact .refuse
  · exact .orRefuse fun _ => .accept
      (.ite (fun _ => .sprayEnd (.modPath id (.refl s))) fun _ => .modPath id (.refl s))

theorem pathKeepAnswer_lawful : (pathKeepAnswer p d s).Lawful s := by
  refine .orRefuse fun _ => .orRefuse fun _ => ?_
  split
  · exact .orRefuse fun _ => .accept (.modPath id (.refl s))
  · exact .refuse

theorem pathDiscardAnswer_lawful : (pathDiscardAnswer p d s).Lawful s := by
  refine .orRefuse fun _ => .orRefuse fun _ => ?_
  split
  · exact .refuse
  · exact .orRefuse fun _ => .accept (.modPath (fun _ => Nat.zero_le _) (.refl s))

/-! ### The gate, the oven and the holds (chapters 09 to 11) -/

theorem ovenAcceptAnswer_lawful : (ovenAcceptAnswer p d s).Lawful s := by
  refine .orRefuse fun _ => .orRefuse fun _ => ?_
  split
  · exact .refuse
  · exact .orRefuse fun _ => .accept
      (.ite (fun _ => .reevaluate (.setGate .inl (.refl s))) fun _ => .setGate .inl (.refl s))

theorem setOvenLayoutAnswer_lawful : (setOvenLayoutAnswer p d s).Lawful s :=
  .orRefuse fun _ => .orRefuse fun _ => .orRefuse fun _ => .orRefuse fun _ => .orRefuse fun _ => .orRefuse fun _ =>
    .accept (.judgeZones (.setLayout (.refl s)))

theorem listHoldsAnswer_lawful : (listHoldsAnswer d s).Lawful s := .orRefuse fun _ => .accept (.refl s)

/-- R174 conditions 1 and 5: a disposable board has a record, and a reworked one fewer than two passes. -/
theorem disposable_record {s : State} {a : Action} {n : Serial} {b : BoardRecord} (h : s.disposable a n = .ok b) :
    b ∈ s.records ∧ (a = .respray ∨ a = .recure → b.rework < 2) := by
  unfold State.disposable at h
  cases hr : s.record? n with
  | none => simp [hr] at h
  | some c =>
    simp only [hr] at h
    split_ifs at h with h1 h2 h3 h4
    cases h
    exact ⟨record?_mem s n b hr, fun ha => by simpa [ha] using h4⟩

theorem resprayAnswer_lawful {b : BoardRecord} (l : LaneId) (areas : List (Fin 12)) (hb : b ∈ s.records)
    (hw : b.rework < 2) : (resprayAnswer b l areas s).Lawful s :=
  .orRefuse fun _ => .orRefuse fun _ => .orRefuse fun _ => .orRefuse fun hq =>
    .accept (.disposeRespray hb hw (Nat.lt_of_not_le hq) (.refl s))

theorem disposeAnswer_lawful : (disposeAnswer p d s).Lawful s := by
  refine .orRefuse fun _ => ?_
  split
  · exact .refuse
  · dsimp only
    split
    · exact .refuse
    · refine .orRefuse fun _ => ?_
      split
      · exact .refuse
      · rename_i b hb
        obtain ⟨hmem, hw⟩ := disposable_record hb
        split
        · exact .accept (.disposeOut (.refl s))
        · exact .accept (.disposeOut (.refl s))
        · exact resprayAnswer_lawful s _ _ hmem (hw (.inl rfl))
        · exact .orRefuse fun _ => .accept (.disposeRecure hmem (hw (.inr rfl)) (.refl s))

end Answers
end Sys2Proof.Machine
end

section
/-!
A command taken is answered (O8), and every step keeps every bound (O57).
-/

namespace Sys2Proof.Machine

open Sys2Proof

/-! ### Taking a command (R4 to R6) -/

/-- Every answer is lawful, but for PATH_BEGIN's, which R105 gives an effect on one refusal. -/
theorem commandAnswer_lawful (p : Port) (f : Frame) (s : State) :
    Kept s (commandAnswer p f s).st ∧ (f.kind ≠ 0x50#8 → (commandAnswer p f s).Lawful s) := by
  have lawful {a : Answer} (h : a.Lawful s) : Kept s a.st ∧ (f.kind ≠ 0x50#8 → a.Lawful s) := ⟨h.kept, fun _ => h⟩
  unfold commandAnswer
  split
  case h_1 => exact lawful (identifyAnswer_lawful ..)
  case h_2 => exact lawful (getStatusAnswer_lawful ..)
  case h_3 => exact lawful (getEventsAnswer_lawful ..)
  case h_4 => exact lawful (ackEventsAnswer_lawful ..)
  case h_5 => exact lawful (setNoticeMaskAnswer_lawful ..)
  case h_6 => exact lawful (getBoardAnswer_lawful ..)
  case h_7 => exact lawful (listHoldsAnswer_lawful ..)
  case h_8 => exact lawful (setLineConfigAnswer_lawful ..)
  case h_9 => exact lawful (setLaneConfigAnswer_lawful ..)
  case h_10 => exact lawful (setOvenLayoutAnswer_lawful ..)
  case h_11 => exact lawful (ovenAcceptAnswer_lawful ..)
  case h_12 => exact lawful (writeRecipeAnswer_lawful ..)
  case h_13 => exact lawful (readRecipeAnswer_lawful ..)
  case h_14 => exact lawful (bindAliasAnswer_lawful ..)
  case h_15 => exact lawful (unbindAliasAnswer_lawful ..)
  case h_16 => exact lawful (writeFeatureMapAnswer_lawful ..)
  case h_17 => exact lawful (clearRecipesAnswer_lawful ..)
  case h_18 => exact lawful (laneEnableAnswer_lawful ..)
  case h_19 => exact lawful (laneDisableAnswer_lawful ..)
  case h_20 => exact lawful (laneResetAnswer_lawful ..)
  case h_21 => exact lawful (lineResetAnswer_lawful ..)
  case h_22 => exact lawful (clearNozzleAnswer_lawful ..)
  case h_23 => exact lawful (announceAnswer_lawful ..)
  case h_24 => exact lawful (withdrawAnswer_lawful ..)
  case h_25 h =>
    refine ⟨pathBeginAnswer_kept .., fun hk => ?_⟩
    exact absurd (BitVec.eq_of_toNat_eq h) hk
  case h_26 => exact lawful (segmentsAnswer_lawful ..)
  case h_27 => exact lawful (pathEndAnswer_lawful ..)
  case h_28 => exact lawful (pathKeepAnswer_lawful ..)
  case h_29 => exact lawful (pathDiscardAnswer_lawful ..)
  case h_30 => exact lawful (disposeAnswer_lawful ..)
  case h_31 => exact lawful .refuse

@[simp] theorem taken_txLength (s : State) (p : Port) (rest : List Frame) :
    (s.taken p rest).txLength p = s.txLength p := by
  simp [State.txLength, State.taken]

/-- R6: the reply stands right behind the frames that were in the transmit queue. -/
theorem answered_reply_at {s t : State} (p : Port) (r : TxFrame) (h : Kept s t) :
    ((t.answered p (s.txLength p) r).port p).tx[s.txLength p]? = some r := by
  obtain ⟨added, htx, -⟩ := (h.ports p).tx
  simp [State.answered, State.txLength, htx]

/-- The fields of a reply: none where the command is refused (R5). -/
theorem replyFrame_eq_reply (f : Frame) (status : Status) (data : List Byte) :
    (⟨false, replyFrame f status data⟩ : TxFrame) =
      reply f status (if status = .ok ∨ status = .clamped then data else []) := rfl

end Sys2Proof.Machine

/-- Settles O8: the answer of every KIND is lawful, and its reply joins behind the notices of before. -/
theorem Sys2Proof.refusedCommandChangesNothing : Obligations.RefusedCommandChangesNothing := by
  intro s t p f rest hready hexec
  rw [Machine.exec_commandOf, Machine.takeCommand_of_ready p f rest _ s hready, Machine.replyFrame_eq_reply] at hexec
  cases hexec
  obtain ⟨hkept, hlawful⟩ := Machine.commandAnswer_lawful p f (s.taken p rest)
  generalize Machine.commandAnswer p f (s.taken p rest) = a at *
  have hat := Machine.answered_reply_at p
    (Machine.reply f a.status (if a.status = .ok ∨ a.status = .clamped then a.data else [])) hkept
  rw [Machine.taken_txLength] at hat
  refine ⟨a.status, _, hat, fun hok hclamped hkind => ?_⟩
  obtain ⟨-, hst⟩ := (hlawful hkind).refused hok hclamped
  rw [hst, if_neg (by simp [hok, hclamped])]
  exact ⟨rfl, rfl⟩

namespace Sys2Proof.Machine

open Sys2Proof

/-! ### A step -/

/-- What every step keeps: sound ports, a sound store, and every lane and the whole part within their bounds. -/
structure StepKept (s t : State) : Prop where
  ports : (∀ p, (s.port p).Sound) → ∀ p, (t.port p).Sound
  store : s.store.Sound → t.store.Sound
  lanes : ∀ l, (s.lane l).Within → (t.lane l).Within
  within : s.Within → t.Within

theorem Kept.stepKept {s t : State} (h : Kept s t) : StepKept s t := by
  refine ⟨fun hs p => (hs p).grows (h.ports p), h.store, h.lanes, fun hw => ?_⟩
  rw [State.within_iff] at hw ⊢
  obtain ⟨hr, hh, ho, hc⟩ := hw
  exact ⟨h.records hr, h.holds hh, h.oven ho, h.settings hc⟩

namespace StepKept

variable {s t u : State}

theorem trans (h : StepKept s t) (g : StepKept t u) : StepKept s u :=
  ⟨g.ports ∘ h.ports, g.store ∘ h.store, fun l => g.lanes l ∘ h.lanes l, g.within ∘ h.within⟩

/-- Only a port changes, and stays sound. -/
theorem modPort {p : Port} {f : PortState → PortState} (hf : (s.port p).Sound → (f (s.port p)).Sound) :
    StepKept s (s.modPort p f) := by
  refine ⟨fun hs q => ?_, by simp, fun l => by simp, fun hw => ?_⟩
  · by_cases hq : q = p
    · subst hq
      rw [modPort_port]
      exact hf (hs q)
    · rw [modPort_port_ne s p q f hq]
      exact hs q
  · exact ⟨by simpa using hw.records, by simpa using hw.distinct, by simpa using hw.each, by simpa using hw.holds,
      by simpa using hw.oven, by simpa using hw.granted, by simpa using hw.positions, by simpa using hw.ordered,
      by simpa using hw.ages, by simpa using hw.settings⟩

end StepKept

/-! ### The receivers (R1 to R3, R6) -/

theorem frameError_sound {ps : PortState} (cause : Nat) (now : Time) (h : ps.Sound) :
    (frameError cause now ps).Sound := by
  have hcounted : PortState.Sound { ps with frameErrors := satAdd 65535 ps.frameErrors 1 } :=
    { h with errors := satAdd_le .. }
  exact hcounted.grows (raiseIn_grows ..)

theorem abandonFrame_sound {ps : PortState} (cause : Nat) (now : Time) (h : ps.Sound) :
    (abandonFrame cause now ps).Sound := frameError_sound cause now { h with }

theorem moveOn_sound {ps : PortState} (x : RxState) (now : Time) (h : ps.Sound) : (moveOn x now ps).Sound := { h with }

/-- R3: a frame joins a queue of fewer than 4. -/
theorem queueFrame_sound {ps : PortState} (f : Frame) (now : Time) (h : ps.Sound) : (queueFrame f now ps).Sound := by
  unfold queueFrame
  split
  · exact { h with rx := by simpa using ‹_› }
  · exact frameError_sound 4 now h

theorem endFrame_sound {ps : PortState} (len kind tag : Byte) (payload : List Byte) (high low : Byte) (now : Time)
    (h : ps.Sound) : (endFrame len kind tag payload high low now ps).Sound := by
  unfold endFrame
  split
  · exact queueFrame_sound _ now { h with }
  · exact abandonFrame_sound 3 now h

theorem sound_ite {c : Prop} [Decidable c] {ps qs : PortState} (hp : ps.Sound) (hq : qs.Sound) :
    (if c then ps else qs).Sound := by
  split
  · exact hp
  · exact hq

/-- R1: whatever byte comes, the receiver keeps its port sound. -/
theorem receiveByte_sound {ps : PortState} (b : Byte) (stop : Bool) (now : Time) (h : ps.Sound) :
    (receiveByte b stop now ps).Sound := by
  have abandoned (cause : Nat) := abandonFrame_sound cause now h
  have moved (x : RxState) := moveOn_sound x now h
  unfold receiveByte
  split
  case h_1 => exact sound_ite (moved _) h
  case h_2 => exact sound_ite (abandoned _) (sound_ite (abandoned _) (moved _))
  case h_3 => exact sound_ite (abandoned _) (moved _)
  case h_4 => exact sound_ite (abandoned _) (sound_ite (moved _) (moved _))
  case h_5 => exact sound_ite (abandoned _) (sound_ite (moved _) (moved _))
  case h_6 => exact sound_ite (abandoned _) (moved _)
  case h_7 => exact sound_ite (abandoned _) (endFrame_sound _ _ _ _ _ _ now h)

theorem frameSent_sound {ps : PortState} (h : ps.Sound) : PortState.Sound { ps with tx := ps.tx.tail } := by
  have hsub : ps.tx.tail.Sublist ps.tx := List.tail_sublist ps.tx
  exact { h with
    notices := ((hsub.filter _).length_le).trans h.notices
    replies := ((hsub.filter _).length_le).trans h.replies }

/-! ### Commands -/

theorem taken_sound {s : State} {p : Port} {f : Frame} {rest : List Frame} (hready : s.Ready p f rest)
    (h : (s.port p).Sound) : (((s.taken p rest).port p)).Sound := by
  have hrx := h.rx
  rw [hready.1, List.length_cons] at hrx
  simp only [State.taken, modPort_port]
  exact { h with rx := Nat.le_of_succ_le hrx }

/-- R6: a port that owes no reply and gains one, with notices on either side, is sound. -/
theorem answered_sound {ps qs : PortState} (r : TxFrame) (hr : r.notice = false) (h : ps.Sound)
    (hnone : ∀ x ∈ ps.tx, x.notice = true) (g : ps.GrowsTo qs) :
    PortState.Sound { qs with tx := qs.tx.take ps.tx.length ++ r :: qs.tx.drop ps.tx.length } := by
  have hqs := h.grows g
  obtain ⟨added, htx, hadded⟩ := g.tx
  have hq : qs.tx.take ps.tx.length ++ r :: qs.tx.drop ps.tx.length = ps.tx ++ r :: added := by simp [htx]
  have hnotices : noticeCount { qs with tx := ps.tx ++ r :: added } = noticeCount qs := by
    simp [noticeCount, htx, List.filter_append, hr]
  have hreplies : ((ps.tx ++ r :: added).filter fun x => !x.notice) = [r] := by
    have hps : (ps.tx.filter fun x => !x.notice) = [] := by simpa using hnone
    have had : (added.filter fun x => !x.notice) = [] := by simpa using hadded
    rw [List.filter_append, hps, List.filter_cons_of_pos (by simp [hr]), had, List.nil_append]
  rw [hq]
  exact { hqs with notices := hnotices.trans_le hqs.notices, replies := by rw [hreplies]; exact Nat.le_refl 1 }

/-- Taking a command keeps what its answer keeps. -/
theorem takeCommand_stepKept (p : Port) (f : Frame) (body : State → Answer) (s : State)
    (hbody : ∀ u, Kept u (body u).st) : StepKept s (takeCommand p f body s) := by
  cases ht : takeable p f s with
  | false =>
    rw [takeCommand_of_not_takeable p f body s ht]
    exact (Kept.refl s).stepKept
  | true =>
    obtain ⟨rest, hready⟩ := (takeable_iff_ready p f s).1 ht
    rw [takeCommand_of_ready p f rest body s hready]
    have hkept := hbody (s.taken p rest)
    generalize body (s.taken p rest) = a at hkept ⊢
    have htaken : StepKept s (s.taken p rest) := .modPort fun h => by
      simpa [State.taken] using taken_sound hready h
    obtain ⟨hports, hstore, hlanes, hwithin⟩ := htaken.trans hkept.stepKept
    refine ⟨fun hs q => ?_, by simpa using hstore, fun l => by simpa using hlanes l, fun hw => ?_⟩
    · by_cases hq : q = p
      · subst hq
        have hlen : s.txLength q = ((s.taken q rest).port q).tx.length := by simp [State.txLength, State.taken]
        rw [State.answered, modPort_port, hlen]
        exact answered_sound _ rfl (htaken.ports hs q) (by simpa [State.taken] using hready.2) (hkept.ports q)
      · rw [State.answered, modPort_port_ne _ p q _ hq]
        exact hports hs q
    · have hw := hwithin hw
      exact ⟨by simpa using hw.records, by simpa using hw.distinct, by simpa using hw.each, by simpa using hw.holds,
        by simpa using hw.oven, by simpa using hw.granted, by simpa using hw.positions, by simpa using hw.ordered,
        by simpa using hw.ages, by simpa using hw.settings⟩

/-! ### The part's own occurrences -/

/-- What an occurrence other than a byte, a frame sent or power-on does keeps the bounds, wherever it leads. -/
def NextKept (s : State) (o : Host.Outcome State Fault Refusal) : Prop := ∀ t, o = .next t → Kept s t

namespace NextKept

variable {s t : State}

theorem next (h : Kept s t) : NextKept s (.next t) := fun _ he => by
  cases he
  exact h

theorem same : NextKept s (.next s) := .next (.refl s)

theorem whenDue {c : Prop} [Decidable c] (h : Kept s t) : NextKept s (if c then .next t else .next s) := by
  split
  · exact .next h
  · exact .same

end NextKept

theorem execFlashReadyExpiry_kept (src : Source) (s : State) : NextKept s (execFlashReadyExpiry src s) := by
  unfold execFlashReadyExpiry
  split
  · exact .same
  · exact .whenDue (.flashReady (.refl s))

theorem execLaneDeadlineExpiry_kept (l : LaneId) (s : State) : NextKept s (execLaneDeadlineExpiry l s) := by
  unfold execLaneDeadlineExpiry
  split
  · exact .same
  · exact .whenDue (.laneHold (.addReason (.setGate (by simpa using .inl) (.refl s))))

theorem execReturnDeadlineExpiry_kept (s : State) : NextKept s (execReturnDeadlineExpiry s) := by
  unfold execReturnDeadlineExpiry
  split
  · exact .same
  · exact .whenDue (.stationFails (.refl s))

theorem execReturnPresenceChange_kept (level : Bool) (s : State) : NextKept s (execReturnPresenceChange level s) := by
  unfold execReturnPresenceChange
  split
  · exact .same
  · exact .next (.presenceChange (.refl s))

theorem execOvenEntryEvent_kept (s : State) : NextKept s (execOvenEntryEvent s) := by
  unfold execOvenEntryEvent
  split
  · exact .next (.raise (.refl s))
  · rename_i src hg
    refine .next (.reevaluate (.freeSource ?_))
    split
    · exact .endGrant_enterOven (by rw [hg]; rfl) (.refl s)
    · exact .endGrant (.refl s)

theorem execTransferTimerExpiry_kept (s : State) : NextKept s (execTransferTimerExpiry s) := by
  unfold execTransferTimerExpiry
  split
  · split
    · exact .next (.endGrant (.refl s))
    · exact .next (.reevaluate (.transferFails (.refl s)))
  · exact .same

theorem execEncoderPulse_kept (s : State) : NextKept s (execEncoderPulse s) := by
  unfold execEncoderPulse
  split
  · exact .same
  · dsimp only
    split
    · exact .next (.reevaluate (.advance (.refl s)))
    · exact .next (.advance (.refl s))

theorem execOvenExitEvent_kept (s : State) : NextKept s (execOvenExitEvent s) := by
  unfold execOvenExitEvent
  split
  · exact .next (.raise (.refl s))
  · split
    · exact .next (.raise (.refl s))
    · exact .next (.reevaluate (.popHead ‹_› (.refl s)))

theorem execEscalationDeadlineExpiry_kept (n : Serial) (s : State) :
    NextKept s (execEscalationDeadlineExpiry n s) := by
  unfold execEscalationDeadlineExpiry
  split
  · exact .whenDue (.escalate (.refl s))
  · exact .same

theorem execOpenDelayEnd_kept (l : LaneId) (s : State) : NextKept s (execOpenDelayEnd l s) := by
  unfold execOpenDelayEnd
  split
  · split
    · exact .next (.serveStart (.endOpenDelay (.refl s)))
    · exact .next (.dropPhase (.refl s))
  · exact .same

theorem execOpenEnd_kept (l : LaneId) (s : State) : NextKept s (execOpenEnd l s) := by
  unfold execOpenEnd
  split
  · split
    · exact .next (.serveStart (.enterClosing (.refl s)))
    · exact .next (.dropPhase (.refl s))
  · exact .same

theorem execSprayEndTimeOld_kept (n : Serial) (s : State) : NextKept s (execSprayEndTimeOld n s) := by
  unfold execSprayEndTimeOld
  exact .whenDue (.modRecord (fun _ => ⟨rfl, fun w => { w with }⟩) (.refl s))

theorem port_reset_sound : PortState.reset.Sound :=
  ⟨Nat.zero_le _, Nat.zero_le _, Nat.zero_le _, fun i r h => by simp [PortState.reset] at h, Nat.zero_le _⟩

theorem powered_within (x : Lane) : x.powered.Within :=
  ⟨Nat.zero_le _, rfl, Nat.zero_le _, Nat.zero_le _, ⟨Nat.zero_le _, Nat.zero_le _, Nat.zero_le _, Nat.zero_le _⟩,
    Nat.zero_le _, Nat.zero_le _, Nat.zero_le _, Nat.zero_le _, Nat.zero_le _⟩

/-- R83: power-on leaves nothing that could be out of its bounds. -/
theorem powerOn_stepKept (s : State) : StepKept s { State.reset with
    lane0 := s.lane0.powered
    lane1 := s.lane1.powered
    gate := { Gate.reset with presence := s.gate.presence }
    freeCount := s.freeCount
    pending := s.pending } := by
  refine ⟨fun _ p => by cases p <;> exact port_reset_sound, fun _ => store_reset_sound,
    fun l _ => by cases l <;> exact powered_within _, fun _ => ?_⟩
  refine (State.within_iff _).2 ⟨recordsWithin_nil, Nat.zero_le _, ⟨Nat.zero_le _, nofun, nofun, .nil, fun z => ?_⟩, rfl⟩
  simp [State.reset, Oven.reset, Zone.reset]

/-- Every row keeps the bounds; a frame's row by its answer, a byte's by the receiver, the others by their operations. -/
theorem exec_stepKept (i : Instr) {s t : State} (h : exec i s = .next t) : StepKept s t := by
  cases hf : frameOf i with
  | some pf =>
    obtain ⟨p, f⟩ := pf
    rcases exec_of_frameOf hf s with he | ⟨he, -⟩
    · rw [he] at h
      cases h
      exact takeCommand_stepKept p f _ s fun u => (commandAnswer_lawful p f u).1
    · rw [he] at h
      cases h
      exact (Kept.refl s).stepKept
  | none =>
    have kept {o : Host.Outcome State Fault Refusal} (hk : NextKept s o) (h : o = .next t) : StepKept s t :=
      (hk t h).stepKept
    cases i
    case powerOn => cases h; exact powerOn_stepKept s
    case frameReceived p b => cases h; exact .modPort (receiveByte_sound b true s.clock)
    case frameByteReceived p b stop => cases h; exact .modPort (receiveByte_sound b stop s.clock)
    case frameSent p => cases h; exact .modPort frameSent_sound
    case frameGapExpiry p =>
      rw [exec, execFrameGapExpiry] at h
      split at h
      · cases h; exact .modPort (abandonFrame_sound 1 s.clock)
      · cases h; exact (Kept.refl s).stepKept
    case clearTimerExpiry =>
      exact kept (.whenDue (.raise (.setStore (fun _ => store_reset_sound) (.refl s)))) h
    case slotAddressChange => exact kept (.next (.modStation (fun hst => { hst with }) (.refl s))) h
    case stationGapExpiry => exact kept (.whenDue (.loseRecord (.setAssembler (.refl s)))) h
    case startStrobe => exact kept (.next (.stationByte (.refl s))) h
    case endStrobe => exact kept (.next (.stationByte (.refl s))) h
    case inspectReading => exact kept (.next (.stationByte (.refl s))) h
    case arrived => exact kept (.next (.stationByte (.refl s))) h
    case cleared => exact kept (.next (.stationByte (.refl s))) h
    case stationByteWritten => exact kept (.next (.stationByte (.refl s))) h
    case paceTimerExpiry => exact kept (.whenDue (.paceExpired (.refl s))) h
    case checkTimerExpiry => exact kept (.whenDue (.endCheck (.refl s))) h
    case ejectTimerExpiry => exact kept (.whenDue (.ejectExpired (.refl s))) h
    case openDelayEnd l => exact kept (execOpenDelayEnd_kept l s) h
    case openEnd l => exact kept (execOpenEnd_kept l s) h
    case closingEnd => exact kept (.whenDue (.serveStart (.finishSegment (.refl s)))) h
    case segmentGapExpiry => exact kept (.whenDue (.gapExpired (.refl s))) h
    case flowPulse => exact kept (.next (.flowPulse (.refl s))) h
    case flashReadyExpiry src => exact kept (execFlashReadyExpiry_kept src s) h
    case laneDeadlineExpiry l => exact kept (execLaneDeadlineExpiry_kept l s) h
    case returnDeadlineExpiry => exact kept (execReturnDeadlineExpiry_kept s) h
    case returnPresenceChange level => exact kept (execReturnPresenceChange_kept level s) h
    case ovenEntryEvent => exact kept (execOvenEntryEvent_kept s) h
    case transferTimerExpiry => exact kept (execTransferTimerExpiry_kept s) h
    case encoderPulse => exact kept (execEncoderPulse_kept s) h
    case ovenSensorRecord => exact kept (.next (.sensorByte (.refl s))) h
    case ovenSensorByteReceived => exact kept (.next (.sensorByte (.refl s))) h
    case ovenSensorGapExpiry => exact kept (.whenDue (.sensorWaiting (.refl s))) h
    case zoneStaleExpiry => exact kept (.whenDue (.makeStale (.refl s))) h
    case doseTick => exact kept (.whenDue (.doseAll (.restartDose (.refl s)))) h
    case ovenExitEvent => exact kept (execOvenExitEvent_kept s) h
    case escalationDeadlineExpiry n => exact kept (execEscalationDeadlineExpiry_kept n s) h
    case sprayEndTimeOld n => exact kept (execSprayEndTimeOld_kept n s) h
    all_goals cases hf

/-- A millisecond: the ages of the zones saturate (R157). -/
theorem tick_kept (s : State) : Kept s s.tick :=
  ⟨fun p => by cases p <;> exact .refl _, id, fun l => by cases l <;> exact id, id, id,
    fun o => { o with ages := fun z => by simpa [State.tick] using satAdd_le 10000 s.oven.zones[z].age 1 }, id⟩

theorem setPending_kept (s : State) (cs : List Instr) : Kept s { s with pending := cs } :=
  ⟨fun p => by cases p <;> exact .refl _, id, fun l => by cases l <;> exact id, id, id, fun o => { o with }, id⟩

theorem step_stepKept {s t : State} (h : step s = .next t) : StepKept s t := by
  unfold step at h
  split at h
  · exact (setPending_kept s _).stepKept.trans (exec_stepKept _ h)
  · split at h
    · exact exec_stepKept _ h
    · cases h
      exact (tick_kept s).stepKept

end Sys2Proof.Machine

/-- Settles O57: each row, and the tick, is made of operations that keep every bound. -/
theorem Sys2Proof.queuesAndCountsStayWithinBounds : Obligations.QueuesAndCountsStayWithinBounds := by
  intro s t h
  obtain ⟨hports, hstore, hlanes, hwithin⟩ := Machine.step_stepKept h
  exact ⟨hports, hstore, fun hl _ hw => ⟨fun l => hlanes l (hl l), hwithin hw⟩⟩
end

section
/-!
The receivers and the transmit queues (R1 to R6), frames read back from their wire form, and raised events (R9, R10).
-/

namespace Sys2Proof.Machine

open Sys2Proof

/-! ### The receiver, state by state (R1) -/

theorem modPort_congr {s : State} {p : Port} {f g : PortState → PortState} (h : f (s.port p) = g (s.port p)) :
    s.modPort p f = s.modPort p g := by
  cases p
  · exact congrArg (fun ps => { s with line := ps }) h
  · exact congrArg (fun ps => { s with bench := ps }) h

theorem modPort_of_same {s : State} {p : Port} {f : PortState → PortState} (h : f (s.port p) = s.port p) :
    s.modPort p f = s := by
  cases p
  · exact congrArg (fun ps => { s with line := ps }) h
  · exact congrArg (fun ps => { s with bench := ps }) h

section Receiver

variable {ps : PortState} {now : Time} {b : Byte}

theorem receiveByte_hunt (stop : Bool) (h : ps.rxState = .hunt) :
    receiveByte b stop now ps = if stop = true ∧ b = 0xA5#8 then moveOn .headerLen now ps else ps := by
  simp [receiveByte, h]

theorem receiveByte_headerLen (h : ps.rxState = .headerLen) :
    receiveByte b true now ps =
      if 200 < b.toNat then abandonFrame 2 now ps else moveOn (.headerKind b) now ps := by
  simp [receiveByte, h]

theorem receiveByte_headerKind {len : Byte} (h : ps.rxState = .headerKind len) :
    receiveByte b true now ps = moveOn (.headerTag len b) now ps := by
  simp [receiveByte, h]

theorem receiveByte_headerTag {len kind : Byte} (h : ps.rxState = .headerTag len kind) :
    receiveByte b true now ps =
      moveOn (if len = 0#8 then .checkHigh len kind b [] else .body len kind b []) now ps := by
  by_cases hl : len = 0#8 <;> simp [receiveByte, h, hl]

theorem receiveByte_body {len kind tag : Byte} {got : List Byte} (h : ps.rxState = .body len kind tag got) :
    receiveByte b true now ps =
      moveOn (if got.length + 1 < len.toNat then .body len kind tag (got ++ [b])
        else .checkHigh len kind tag (got ++ [b])) now ps := by
  by_cases hl : got.length + 1 < len.toNat <;> simp [receiveByte, h, hl]

theorem receiveByte_checkHigh {len kind tag : Byte} {payload : List Byte}
    (h : ps.rxState = .checkHigh len kind tag payload) :
    receiveByte b true now ps = moveOn (.checkLow len kind tag payload b) now ps := by
  simp [receiveByte, h]

theorem receiveByte_checkLow {len kind tag high : Byte} {payload : List Byte}
    (h : ps.rxState = .checkLow len kind tag payload high) :
    receiveByte b true now ps = endFrame len kind tag payload high b now ps := by
  simp [receiveByte, h]

/-- R1, R2: in the middle of a frame a missing stop bit abandons it with cause 5. -/
theorem receiveByte_noStop (h : ps.rxState ≠ .hunt) : receiveByte b false now ps = abandonFrame 5 now ps := by
  cases hx : ps.rxState with
  | hunt => exact absurd hx h
  | headerLen => simp [receiveByte, hx]
  | headerKind => simp [receiveByte, hx]
  | headerTag => simp [receiveByte, hx]
  | body => simp [receiveByte, hx]
  | checkHigh => simp [receiveByte, hx]
  | checkLow => simp [receiveByte, hx]

end Receiver

/-- Two bytes carry a 16-bit number when it is the number they spell. -/
theorem bytes16_eq_iff (c : BitVec 16) (high low : Byte) :
    bytes16 c.toNat = [high, low] ↔ c.toNat = high.toNat * 256 + low.toNat := by
  have hc := c.isLt
  have hh := high.isLt
  have hl := low.isLt
  simp only [bytes16, toByte, List.cons.injEq, and_true, BitVec.toNat_eq, BitVec.toNat_ofNat]
  omega

end Sys2Proof.Machine

open Sys2Proof Machine in
/-- Settles O5, from the receiver's equations in HUNT and at the second check byte. -/
theorem Sys2Proof.framesEnterAndLeaveTheQueues : Obligations.FramesEnterAndLeaveTheQueues := by
  refine ⟨fun s p h => ⟨?_, fun b stop hb => ?_⟩, fun s p len kind tag high low payload h hcheck => ?_,
    fun s p x rest h => ?_⟩
  · refine congrArg Host.Outcome.next (modPort_congr ?_)
    rw [receiveByte_hunt true h, if_pos ⟨rfl, rfl⟩]
    rfl
  · refine congrArg Host.Outcome.next (modPort_of_same ?_)
    rw [receiveByte_hunt stop h, if_neg]
    rintro ⟨rfl, rfl⟩
    simp at hb
  · refine congrArg Host.Outcome.next (modPort_congr ?_)
    rw [receiveByte_checkLow h, endFrame, if_pos ((bytes16_eq_iff ..).2 hcheck)]
    rfl
  · refine congrArg Host.Outcome.next (modPort_congr ?_)
    rw [h]
    rfl

open Sys2Proof Machine in
/-- Settles O6: the gap timer, LEN, the CRC and a missing stop bit each abandon the frame with their cause. -/
theorem Sys2Proof.abandonedFrameReportsCause : Obligations.AbandonedFrameReportsCause := by
  intro s p
  refine ⟨fun t hgap hdue => ?_, fun b h hlen => ?_, fun len kind tag high low payload h hcheck => ?_, fun b h => ?_⟩
  · rw [exec, execFrameGapExpiry, if_pos (by simp [timerDue, hgap, hdue])]
    rfl
  · refine congrArg Host.Outcome.next (modPort_congr ?_)
    rw [receiveByte_headerLen h, if_pos hlen]
    rfl
  · refine congrArg Host.Outcome.next (modPort_congr ?_)
    rw [receiveByte_checkLow h, endFrame, if_neg (mt (bytes16_eq_iff ..).1 hcheck)]
    rfl
  · refine congrArg Host.Outcome.next (modPort_congr ?_)
    rw [receiveByte_noStop h]
    rfl

namespace Sys2Proof.Machine

open Sys2Proof

/-! ### A frame read back from its wire form -/

/-- A receiver given one byte after the other, each with its stop bit, at one time. -/
def receiveAll (now : Time) (bs : List Byte) (ps : PortState) : PortState :=
  bs.foldl (fun ps b => receiveByte b true now ps) ps

theorem receiveAll_cons (now : Time) (b : Byte) (bs : List Byte) (ps : PortState) :
    receiveAll now (b :: bs) ps = receiveAll now bs (receiveByte b true now ps) := rfl

theorem receiveAll_append (now : Time) (as bs : List Byte) (ps : PortState) :
    receiveAll now (as ++ bs) ps = receiveAll now bs (receiveAll now as ps) := List.foldl_append ..

theorem moveOn_moveOn (x y : RxState) (now : Time) (ps : PortState) : moveOn x now (moveOn y now ps) = moveOn x now ps :=
  rfl

/-- R1: the last bytes of a payload bring BODY to CHECK. -/
theorem receiveAll_body (now : Time) (ps : PortState) (len kind tag : Byte) (got rest : List Byte) (hne : rest ≠ [])
    (hlen : len.toNat = got.length + rest.length) :
    receiveAll now rest (moveOn (.body len kind tag got) now ps) =
      moveOn (.checkHigh len kind tag (got ++ rest)) now ps := by
  induction rest generalizing got with
  | nil => exact absurd rfl hne
  | cons b rest ih =>
    rw [receiveAll_cons, receiveByte_body rfl, moveOn_moveOn]
    cases rest with
    | nil => rw [if_neg (by simp at hlen; omega)]; rfl
    | cons c rest =>
      rw [if_pos (by simp at hlen; omega)]
      simpa using ih (got ++ [b]) (by simp) (by simp at hlen ⊢; omega)

/-- R1: LEN, KIND, TAG and payload of a frame that fits bring a receiver from HUNT to CHECK. -/
theorem receiveAll_header (now : Time) (ps : PortState) (f : Frame) (hunt : ps.rxState = .hunt)
    (hfits : f.payload.length ≤ 200) :
    receiveAll now ([0xA5#8, toByte f.payload.length, f.kind, f.tag] ++ f.payload) ps =
      moveOn (.checkHigh (toByte f.payload.length) f.kind f.tag f.payload) now ps := by
  have hlen : (toByte f.payload.length).toNat = f.payload.length := by
    rw [toByte, BitVec.toNat_ofNat]
    omega
  have htag : receiveAll now [0xA5#8, toByte f.payload.length, f.kind, f.tag] ps =
      moveOn (if toByte f.payload.length = 0#8 then .checkHigh (toByte f.payload.length) f.kind f.tag []
        else .body (toByte f.payload.length) f.kind f.tag []) now ps := by
    rw [receiveAll_cons, receiveByte_hunt true hunt, if_pos ⟨rfl, rfl⟩, receiveAll_cons, receiveByte_headerLen rfl,
      if_neg (by omega), receiveAll_cons, receiveByte_headerKind rfl, receiveAll_cons, receiveByte_headerTag rfl]
    rfl
  rw [receiveAll_append, htag]
  cases hp : f.payload with
  | nil => rfl
  | cons b rest =>
    rw [← hp, if_neg, receiveAll_body now ps _ _ _ [] _ (by simp [hp]) (by simpa using hlen)]
    · rfl
    · intro h
      rw [h] at hlen
      simp [hp] at hlen

/-- R1, R3: the wire form of a frame that fits hands the frame to the receive queue. -/
theorem receiveAll_wire (now : Time) (ps : PortState) (f : Frame) (hunt : ps.rxState = .hunt)
    (hfits : f.payload.length ≤ 200) :
    receiveAll now (wire f) ps = queueFrame f now { ps with rxState := .hunt, rxGap := none } := by
  rw [wire, receiveAll_append, receiveAll_header now ps f hunt hfits]
  rw [bytes16, receiveAll_cons, receiveByte_checkHigh rfl, receiveAll_cons, receiveByte_checkLow rfl, endFrame,
    if_pos (by rw [bytes16])]
  rfl

/-- A row that brings a byte with its stop bit to a port's receiver. -/
def Brings (p : Port) (c : Instr) (b : Byte) : Prop := ∀ s, exec c s = .next (s.modPort p (receiveByte b true s.clock))

theorem run_succ {M : Host.Core} {k : Nat} {s t : M.State} (h : M.step s = .next t) : M.run (k + 1) s = M.run k t := by
  rw [Host.Core.run, h]

/-- Rows that bring bytes, put in the queue, run to their end. -/
theorem run_of_brings {p : Port} {cs : List Instr} {bs : List Byte} (h : List.Forall₂ (Brings p) cs bs) (s : State) :
    Sys2Proof.core.run cs.length { s with pending := cs } =
      .next ({ s with pending := [] }.modPort p (receiveAll s.clock bs)) := by
  induction h generalizing s with
  | nil => cases p <;> rfl
  | @cons c b cs bs hc _ ih =>
    have hstep : Sys2Proof.core.step { s with pending := c :: cs } =
        .next { s.modPort p (receiveByte b true s.clock) with pending := cs } := by
      refine (hc { s with pending := cs }).trans (congrArg Host.Outcome.next ?_)
      cases p <;> rfl
    rw [List.length_cons, run_succ hstep]
    refine (ih _).trans (congrArg Host.Outcome.next ?_)
    cases p <;> rfl

theorem brings_frameByteReceived (p : Port) (bs : List Byte) :
    List.Forall₂ (Brings p) (bs.map fun b => .frameByteReceived p b true) bs :=
  List.forall₂_map_left_iff.2 (List.forall₂_same.2 fun _ _ _ => rfl)

theorem brings_frameReceived (p : Port) (bs : List Byte) :
    List.Forall₂ (Brings p) (bs.map fun b => .frameReceived p b) bs :=
  List.forall₂_map_left_iff.2 (List.forall₂_same.2 fun _ _ _ => rfl)

theorem brings_sending (p : Port) (f : Frame) : List.Forall₂ (Brings p) (sending p f) (wire f) := by
  have hwire : wire f = (wire f).dropLast ++ (wire f).getLast?.toList := by
    have hne : wire f ≠ [] := by simp [wire]
    rw [List.getLast?_eq_some_getLast hne]
    exact (List.dropLast_append_getLast hne).symm
  rw [hwire]
  exact List.rel_append (brings_frameByteReceived p _) (brings_frameReceived p _)

theorem sending_length (p : Port) (f : Frame) : (sending p f).length = f.payload.length + 6 := by
  rw [(brings_sending p f).length_eq]
  simp [wire]

end Sys2Proof.Machine

open Sys2Proof Machine in
/-- Settles O4: the bytes run through the receiver one by one, and the last hands the frame to the receive queue. -/
theorem Sys2Proof.receiverReadsBackEveryFrame : Obligations.ReceiverReadsBackEveryFrame := by
  intro s p f hfits hunt
  have hrun : Sys2Proof.core.run (f.payload.length + 6) { s with pending := sending p f } =
      .next ({ s with pending := [] }.modPort p fun ps =>
        queueFrame f s.clock { ps with rxState := .hunt, rxGap := none }) := by
    rw [← sending_length p f]
    refine (run_of_brings (brings_sending p f) s).trans (congrArg Host.Outcome.next (modPort_congr ?_))
    refine receiveAll_wire s.clock _ f ?_ hfits
    cases p <;> exact hunt
  refine ⟨fun hroom => hrun.trans (congrArg Host.Outcome.next (modPort_congr ?_)),
    fun hfull => hrun.trans (congrArg Host.Outcome.next (modPort_congr ?_))⟩
  · rw [queueFrame, if_pos]
    cases p <;> exact hroom
  · rw [queueFrame, if_neg]
    · rfl
    · cases p <;> exact Nat.not_lt.2 hfull

namespace Sys2Proof.Machine

open Sys2Proof

/-! ### Raised events (R9, R10) -/

theorem raiseIn_event (k : EventKind) (d : Detail) (ps : PortState) :
    (raiseIn k d ps).events[k.idx] = (match ps.events[k.idx] with
      | none => some ⟨d, 1⟩
      | some r => some ⟨r.detail, min 255 (r.count + 1)⟩) := by
  cases h : ps.events[k.idx] with
  | none =>
    rw [raiseIn_clear k d ps h]
    dsimp only
    split
    · rcases queueNotice_cases { ps with events := ps.events.set k.idx (some ⟨d, 1⟩) } (noticeFrame k d) with
        ⟨_, he⟩ | ⟨_, he⟩ <;> simp [he]
    · simp
  | some r =>
    rw [raiseIn_raised k d ps r h]
    simp [satAdd]

theorem raiseIn_otherEvent (k : EventKind) (d : Detail) (ps : PortState) (j : Fin 19) (hj : j ≠ k.idx) :
    (raiseIn k d ps).events[j] = ps.events[j] := by
  obtain ⟨r, added, he, -⟩ := raiseIn_cases k d ps
  rw [he]
  simp [Fin.val_ne_of_ne (Ne.symm hj)]

theorem raiseIn_tx (k : EventKind) (d : Detail) (ps : PortState) :
    (raiseIn k d ps).tx = ps.tx ++
      if ps.events[k.idx] = none ∧ ps.mask[k.idx] = true ∧ noticeCount ps < 16 then [⟨true, noticeFrame k d⟩] else [] := by
  cases h : ps.events[k.idx] with
  | none =>
    rw [raiseIn_clear k d ps h]
    have hcount : noticeCount { ps with events := ps.events.set k.idx (some ⟨d, 1⟩) } = noticeCount ps := rfl
    by_cases hm : ps.mask[k.idx] = true
    · by_cases hn : noticeCount ps < 16 <;> simp [queueNotice, hm, hcount, hn]
    · simp [hm]
  | some r =>
    rw [raiseIn_raised k d ps r h]
    simp

theorem raiseIn_frame (k : EventKind) (d : Detail) (ps : PortState) :
    raiseIn k d ps = { ps with events := (raiseIn k d ps).events, tx := (raiseIn k d ps).tx } := by
  obtain ⟨r, added, he, -⟩ := raiseIn_cases k d ps
  rw [he]

end Sys2Proof.Machine

open Sys2Proof Machine in
/-- Settles O7: raising acts on each port's own record and queue, and on nothing else. -/
theorem Sys2Proof.raisedEventIsRecordedAndNoticed : Obligations.RaisedEventIsRecordedAndNoticed := by
  intro s k lane n code
  refine ⟨rfl, fun p => ?_⟩
  simp only [raise_port]
  exact ⟨raiseIn_frame .., raiseIn_event .., fun j hj => raiseIn_otherEvent _ _ _ j hj, raiseIn_tx ..⟩
end

section
/-!
The checks before a command's own conditions (R4, R8): port, length and recurring fields.
-/

namespace Sys2Proof.Machine

open Sys2Proof

/-! ### Fields that fail (R8) -/

theorem laneOf_none {b : Byte} (h : 1 < b.toNat) : laneOf b = none := by
  have h0 : b ≠ 0#8 := by rintro rfl; simp at h
  have h1 : b ≠ 1#8 := by rintro rfl; simp at h
  simp [laneOf, h0, h1]

theorem onOffOf_none {b : Byte} (h : 1 < b.toNat) : onOffOf b = none := by
  have h0 : b ≠ 0#8 := by rintro rfl; simp at h
  have h1 : b ≠ 1#8 := by rintro rfl; simp at h
  simp [onOffOf, h0, h1]

theorem eventIndexOf_none {b : Byte} (h : b.toNat < 1 ∨ 19 < b.toNat) : eventIndexOf b = none := by
  rw [eventIndexOf, dif_neg (by omega)]

theorem finOf_none {n : Nat} {b : Byte} (h : n ≤ b.toNat) : finOf n b = none := by
  rw [finOf, dif_neg (by omega)]

/-- A list of event kinds with one out of range is refused. -/
theorem eventKinds_none {d : List Byte} (h : ∃ b ∈ d, b.toNat < 1 ∨ 19 < b.toNat) : d.mapM eventIndexOf = none := by
  obtain ⟨b, hb, hr⟩ := h
  exact mapM_none_iff.2 ⟨b, hb, eventIndexOf_none hr⟩

/-! ### The length steps that read the payload (R24, R153, R174) -/

/-- A check of the length alone refuses with BAD_LENGTH. -/
theorem badLength_of_check {ok : Bool} {e : Status} (h : (if ok = true then none else some Status.badLength) = some e) :
    ok = false ∧ e = .badLength := by
  cases ok
  · exact ⟨rfl, by simpa using h.symm⟩
  · simp at h

/-- R174: the action a byte names, by its number. -/
theorem actionOf_eq (b : Byte) : actionOf b = match b.toNat with
    | 0 => some .release
    | 1 => some .scrap
    | 2 => some .respray
    | 3 => some .recure
    | _ => none := by
  revert b
  decide

/-- Table 2.2: the section a byte names, by its number. -/
theorem sectionOf_eq (b : Byte) : sectionOf b = match b.toNat with
    | 1 => some .material
    | 2 => some .areas
    | 3 => some .features
    | 4 => some .cure
    | 5 => some .timing
    | _ => none := by
  revert b
  decide

/-- R174: the length step of a DISPOSE, by the action its payload names. -/
theorem lengthStep_dispose (d : List Byte) :
    lengthStep 0x60#8 d = match disposeLength d with
      | .error e => some e
      | .ok _ => none := by
  unfold disposeLength
  rw [actionOf_eq]
  by_cases hshort : d.length < 5
  · simp [lengthStep, hshort]
  simp only [lengthStep, hshort, if_false]
  generalize (byteAt d 4).toNat = a
  match a with
  | 0 | 1 | 3 => by_cases hn : d.length = 5 <;> simp [hn]
  | 2 =>
    by_cases hn : d.length < 7
    · simp [hn]
    · by_cases hc : 12 < (byteAt d 6).toNat
      · simp [hn, hc]
      · by_cases hx : d.length = 7 + (byteAt d 6).toNat <;> simp [hn, hc, hx]
  | n + 4 => rfl

theorem lengthCheck_eq (c : Prop) [Decidable c] :
    (if decide c = true then none else some Status.badLength) = if c then none else some Status.badLength := by
  by_cases h : c <;> simp [h]

theorem countCheck_eq {b b' : Prop} [Decidable b] [Decidable b'] (hb : b ↔ b') (c : Prop) [Decidable c] :
    (if b then some Status.badValue else if decide c = true then none else some Status.badLength) =
      if b' then some Status.badValue else if c then none else some Status.badLength := by
  rw [lengthCheck_eq]
  exact if_congr hb rfl rfl

/-- R24: the length step of a WRITE_RECIPE, by the section its payload names. -/
theorem lengthStep_writeRecipe (d : List Byte) :
    lengthStep 0x20#8 d = if d.length < 3 then some .badLength else
      match sectionOf (byteAt d 1) with
      | none => some .badValue
      | some c =>
        if countByteOk c d = false then some .badValue
        else if d.length = 2 + sectionLength c d then none else some .badLength := by
  rw [sectionOf_eq]
  by_cases hshort : d.length < 3
  · simp [lengthStep, hshort]
  simp only [lengthStep, hshort, if_false]
  generalize (byteAt d 1).toNat = a
  match a with
  | 0 => rfl
  | 1 | 4 | 5 => exact lengthCheck_eq _
  | 2 => exact countCheck_eq (by simp [countByteOk]; omega) _
  | 3 => exact countCheck_eq (by simp [countByteOk]) _
  | n + 6 => rfl

/-- The commands the Bench Port may send (R7). -/
def benchKinds : List Nat := [0x01, 0x02, 0x03, 0x04, 0x05, 0x06, 0x07, 0x31, 0x60]

/-- R4 check 2, R7: port `p` may send this KIND. -/
def Permitted (p : Port) (f : Frame) (s : State) : Prop :=
  isCommandKind f.kind = true ∧ (p = .line ∨ f.kind.toNat ∈ benchKinds) ∧
    (p = .line → f.kind.toNat = 0x60 → s.settings.remoteDisposition = true)

/-- R7: a command kind that is not among the Bench Port's is WRONG_PORT there. -/
theorem commandAnswer_wrongPort_bench (f : Frame) (s : State) (hk : isCommandKind f.kind = true)
    (hb : f.kind.toNat ∉ benchKinds) : commandAnswer .bench f s = refuse .wrongPort s := by
  unfold commandAnswer
  split
  case h_31 => simp_all [isCommandKind]
  case h_1 | h_2 | h_3 | h_4 | h_5 | h_6 | h_7 | h_19 | h_30 => simp_all [benchKinds]
  all_goals rfl

/-- R7: a DISPOSE on the Line Port while remote disposition is off. -/
theorem commandAnswer_wrongPort_line (f : Frame) (s : State) (hk : f.kind = 0x60#8)
    (hr : s.settings.remoteDisposition = false) : commandAnswer .line f s = refuse .wrongPort s := by
  simp [commandAnswer, hk, disposeAnswer, hr]

section Length

variable {s : State} {d : List Byte} {e : Status}

/-- A command of the Line Port whose length check fails. -/
theorem line_badLength {c : Prop} [Decidable c] {a : Answer} (h : c) :
    (if Port.line ≠ .line then refuse .wrongPort s else if c then refuse .badLength s else a) = refuse .badLength s := by
  simp [h]

theorem setOvenLayoutAnswer_of_lengthStep (h : lengthStep 0x12#8 d = some e) :
    setOvenLayoutAnswer .line d s = refuse e s := by
  have hmem : d.length ∉ [5, 7, 9, 11, 13, 15] ↔ d.length % 2 = 0 ∨ d.length < 5 ∨ 15 < d.length := by
    simp only [List.mem_cons, List.not_mem_nil, or_false]
    omega
  have hstep : lengthStep 0x12#8 d = if d.length ∉ [5, 7, 9, 11, 13, 15] then some .badLength
      else if (byteAt d 0).toNat < 1 ∨ 6 < (byteAt d 0).toNat then some .badValue
      else if decide (d.length = 3 + 2 * (byteAt d 0).toNat) = true then none else some .badLength := rfl
  rw [hstep] at h
  unfold setOvenLayoutAnswer
  rw [if_neg (by simp)]
  split_ifs at h with h1 h2 h3
  · cases h
    rw [if_neg (mt hmem.2 (not_not.2 h1)), if_pos h2]
  · cases h
    rw [if_neg (mt hmem.2 (not_not.2 h1)), if_neg h2, if_pos (by simpa using h3)]
  · cases h
    rw [if_pos (hmem.1 h1)]

theorem writeRecipeAnswer_of_lengthStep (h : lengthStep 0x20#8 d = some e) :
    writeRecipeAnswer .line d s = refuse e s := by
  rw [lengthStep_writeRecipe] at h
  unfold writeRecipeAnswer
  rw [if_neg (by simp)]
  split_ifs at h with h1
  · cases h
    rw [if_pos h1]
  · rw [if_neg h1]
    cases hc : sectionOf (byteAt d 1) with
    | none =>
      rw [hc] at h
      cases h
      rfl
    | some c =>
      simp only [hc] at h
      split_ifs at h with h2 h3
      · cases h
        simp [h2]
      · cases h
        simp [h2, h3]

theorem disposeAnswer_of_lengthStep {p : Port} (hr : p = .line → s.settings.remoteDisposition = true)
    (h : lengthStep 0x60#8 d = some e) : disposeAnswer p d s = refuse e s := by
  rw [lengthStep_dispose] at h
  have hport : ¬ (p = .line ∧ s.settings.remoteDisposition = false) := fun ⟨hl, hf⟩ => by simp [hr hl] at hf
  unfold disposeAnswer
  rw [if_neg hport]
  cases hd : disposeLength d with
  | error e' =>
    rw [hd] at h
    cases h
    rfl
  | ok a =>
    rw [hd] at h
    cases h

theorem segmentsAnswer_of_lengthStep (h : lengthStep 0x51#8 d = some e) : segmentsAnswer .line d s = refuse e s := by
  obtain ⟨hn, rfl⟩ := badLength_of_check h
  refine line_badLength ?_
  simp only [decide_eq_false_iff_not, List.mem_cons, List.not_mem_nil, or_false] at hn
  omega

end Length

/-- R4 check 3: a permitted kind whose length step fails is refused with that step's status. -/
theorem commandAnswer_of_lengthStep {p : Port} {f : Frame} {s : State} {e : Status} (hp : Permitted p f s)
    (h : lengthStep f.kind f.payload = some e) : commandAnswer p f s = refuse e s := by
  obtain ⟨hkind, hport, hremote⟩ := hp
  have step {n : Nat} (hk : f.kind.toNat = n) : lengthStep (BitVec.ofNat 8 n) f.payload = some e := by
    rw [← h, ← hk, BitVec.ofNat_toNat, BitVec.setWidth_eq]
  have online (hb : f.kind.toNat ∉ benchKinds) : p = .line := hport.resolve_right hb
  unfold commandAnswer
  split
  case h_10 hk =>
    obtain rfl := online (by simp [hk, benchKinds])
    exact setOvenLayoutAnswer_of_lengthStep (step hk)
  case h_12 hk =>
    obtain rfl := online (by simp [hk, benchKinds])
    exact writeRecipeAnswer_of_lengthStep (step hk)
  case h_26 hk =>
    obtain rfl := online (by simp [hk, benchKinds])
    exact segmentsAnswer_of_lengthStep (step hk)
  case h_30 hk => exact disposeAnswer_of_lengthStep (fun hl => hremote hl hk) (step hk)
  case h_31 => simp_all [isCommandKind]
  all_goals
    rename_i hk
    obtain ⟨hn, rfl⟩ := badLength_of_check (step hk)
    simp only [Bool.and_eq_false_iff, decide_eq_false_iff_not] at hn
  case h_1 => exact if_pos hn
  case h_2 => exact if_pos hn
  case h_3 => exact if_pos (by omega)
  case h_4 => exact if_pos (by omega)
  case h_5 => exact if_pos (by omega)
  case h_6 => exact if_pos hn
  case h_7 => exact if_pos hn
  case h_19 => exact if_pos hn
  all_goals
    obtain rfl := online (by simp [hk, benchKinds])
    exact line_badLength (by omega)

end Sys2Proof.Machine
end

section
/-!
The common fields of a payload (R8), and the order of the checks (O9).
-/

namespace Sys2Proof.Machine

open Sys2Proof

section Fields

variable {s : State} {d : List Byte}

theorem length_of_check {ok : Bool} (h : (if ok = true then none else some Status.badLength) = none) : ok = true := by
  cases ok
  · simp at h
  · rfl

theorem getEventsAnswer_of_field (p : Port) (hn : d.length ≤ 1) (hf : ∃ b ∈ d, b.toNat < 1 ∨ 19 < b.toNat) :
    getEventsAnswer p d s = refuse .badValue s := by
  obtain ⟨b, hb, hr⟩ := hf
  match d, hn, hb with
  | [c], _, hb =>
    rw [List.mem_singleton.1 hb] at hr
    simp [getEventsAnswer, eventIndexOf_none hr]

theorem ackEventsAnswer_of_field (p : Port) (h1 : 1 ≤ d.length) (h2 : d.length ≤ 19)
    (hf : ∃ b ∈ d, b.toNat < 1 ∨ 19 < b.toNat) : ackEventsAnswer p d s = refuse .badValue s := by
  rw [ackEventsAnswer, if_neg (by omega), eventKinds_none hf]

theorem setNoticeMaskAnswer_of_field (p : Port) (hn : d.length ≤ 19) (hf : ∃ b ∈ d, b.toNat < 1 ∨ 19 < b.toNat) :
    setNoticeMaskAnswer p d s = refuse .badValue s := by
  rw [setNoticeMaskAnswer, if_neg (by omega), eventKinds_none hf]

theorem bindAliasAnswer_of_field (hn : d.length = 3) (hf : word16At d 0 = 0) :
    bindAliasAnswer .line d s = refuse .badValue s := by
  cases hi : finOf 8 (byteAt d 2) <;> simp [bindAliasAnswer, hn, hf, hi]

theorem announceAnswer_of_field (hn : d.length = 7)
    (hf : 1 < (byteAt d 0).toNat ∨ word32At d 1 = 0 ∨ word16At d 5 = 0) :
    announceAnswer .line d s = refuse .badValue s := by
  rcases hf with hf | hf
  · simp [announceAnswer, hn, laneOf_none hf]
  · cases hl : laneOf (byteAt d 0) <;> simp [announceAnswer, hn, hl, hf]

theorem pathBeginAnswer_of_field (hn : d.length = 3) (hf : 1 < (byteAt d 0).toNat ∨ word16At d 1 = 0) :
    pathBeginAnswer .line d s = refuse .badValue s := by
  rcases hf with hf | hf
  · simp [pathBeginAnswer, hn, laneOf_none hf]
  · cases hl : laneOf (byteAt d 0) <;> simp [pathBeginAnswer, hn, hl, hf]

theorem pathKeepAnswer_of_field (hn : d.length = 2) (hf : 1 < (byteAt d 0).toNat ∨ 1 < (byteAt d 1).toNat) :
    pathKeepAnswer .line d s = refuse .badValue s := by
  rcases hf with hf | hf
  · simp [pathKeepAnswer, hn, laneOf_none hf]
  · simp [pathKeepAnswer, hn, onOffOf_none hf]

theorem segmentsAnswer_of_field (hn : lengthStep 0x51#8 d = none) (hf : 1 < (byteAt d 0).toNat) :
    segmentsAnswer .line d s = refuse .badValue s := by
  have hlen := length_of_check hn
  simp only [decide_eq_true_eq, List.mem_cons, List.not_mem_nil, or_false] at hlen
  rw [segmentsAnswer, if_neg (by simp), if_neg (by omega), laneOf_none hf]

/-- R174: a DISPOSE whose length step passes is for the action its payload names. -/
theorem actionOf_of_disposeLength {a : Action} (h : disposeLength d = .ok a) : actionOf (byteAt d 4) = some a := by
  unfold disposeLength at h
  by_cases hshort : d.length < 5
  · simp [hshort] at h
  · rw [if_neg hshort] at h
    cases ha : actionOf (byteAt d 4) with
    | none => simp [ha] at h
    | some c =>
      simp only [ha] at h
      cases c <;> dsimp only at h <;> split_ifs at h <;> cases h <;> rfl

/-- R174: the lane, the areas or the serial of a DISPOSE fail their checks. -/
theorem disposeAnswer_of_field {p : Port} (hr : p = .line → s.settings.remoteDisposition = true)
    (hn : lengthStep 0x60#8 d = none)
    (hf : word32At d 0 = 0 ∨ byteAt d 4 = 2#8 ∧ (1 < (byteAt d 5).toNat ∨ ∃ b ∈ d.drop 7, 11 < b.toNat)) :
    disposeAnswer p d s = refuse .badValue s := by
  have hport : ¬ (p = .line ∧ s.settings.remoteDisposition = false) := fun ⟨hl, hf⟩ => by simp [hr hl] at hf
  rw [lengthStep_dispose] at hn
  cases ha : disposeLength d with
  | error e => simp [ha] at hn
  | ok a =>
    rw [disposeAnswer, if_neg hport, ha]
    dsimp only
    split
    · rfl
    · rename_i l areas htarget
      refine if_pos ?_
      rcases hf with hf | ⟨h2, hf⟩
      · exact hf
      · exfalso
        have hrespray := actionOf_of_disposeLength ha
        rw [h2] at hrespray
        cases hrespray
        rw [if_pos rfl] at htarget
        rcases hf with hlane | ⟨b, hb, hbig⟩
        · simp [laneOf_none hlane] at htarget
        · have hareas : resprayAreas d = none := mapM_none_iff.2 ⟨b, hb, finOf_none (by omega)⟩
          simp [hareas] at htarget

end Fields

/-- R4 check 4, R8: a permitted kind whose length step passes and one of whose common fields fails is BAD_VALUE. -/
theorem commandAnswer_of_commonField {p : Port} {f : Frame} {s : State} (hp : Permitted p f s)
    (hlen : lengthStep f.kind f.payload = none) (hfail : CommonFieldFails f.kind f.payload) :
    commandAnswer p f s = refuse .badValue s := by
  obtain ⟨hkind, hport, hremote⟩ := hp
  have length {n : Nat} (hk : f.kind.toNat = n) : lengthStep (BitVec.ofNat 8 n) f.payload = none := by
    rw [← hlen, ← hk, BitVec.ofNat_toNat, BitVec.setWidth_eq]
  have field {n : Nat} (hk : f.kind.toNat = n) : CommonFieldFails (BitVec.ofNat 8 n) f.payload := by
    rwa [← hk, BitVec.ofNat_toNat, BitVec.setWidth_eq]
  have online (hb : f.kind.toNat ∉ benchKinds) : p = .line := hport.resolve_right hb
  unfold commandAnswer
  split
  case h_26 hk =>
    obtain rfl := online (by simp [hk, benchKinds])
    exact segmentsAnswer_of_field (length hk) (field hk)
  case h_30 hk => exact disposeAnswer_of_field (fun hl => hremote hl hk) (length hk) (field hk)
  case h_31 => simp_all [isCommandKind]
  case h_1 hk => exact (field hk).elim
  case h_2 hk => exact (field hk).elim
  case h_7 hk => exact (field hk).elim
  case h_10 hk => exact (field hk).elim
  case h_12 hk => exact (field hk).elim
  case h_13 hk => exact (field hk).elim
  case h_16 hk => exact (field hk).elim
  case h_17 hk => exact (field hk).elim
  case h_21 hk => exact (field hk).elim
  all_goals
    rename_i hk
    have hn := length_of_check (length hk)
    have hf := field hk
    simp only [Bool.and_eq_true, decide_eq_true_eq] at hn
  case h_3 => exact getEventsAnswer_of_field p hn hf
  case h_4 => exact ackEventsAnswer_of_field p hn.1 hn.2 hf
  case h_5 => exact setNoticeMaskAnswer_of_field p hn hf
  case h_6 => exact (if_neg (not_not.2 hn)).trans (if_pos hf)
  case h_19 => simp [laneDisableAnswer, hn, laneOf_none hf]
  all_goals obtain rfl := online (by simp [hk, benchKinds])
  case h_8 => simp [setLineConfigAnswer, hn, onOffOf_none hf]
  case h_9 => simp [setLaneConfigAnswer, hn, laneOf_none hf]
  case h_11 => simp [ovenAcceptAnswer, hn, onOffOf_none hf]
  case h_14 => exact bindAliasAnswer_of_field hn hf
  case h_15 => simp [unbindAliasAnswer, hn, show word16At f.payload 0 = 0 from hf]
  case h_18 => simp [laneEnableAnswer, hn, laneOf_none hf]
  case h_20 => simp [laneResetAnswer, hn, laneOf_none hf]
  case h_22 => simp [clearNozzleAnswer, hn, laneOf_none hf]
  case h_23 => exact announceAnswer_of_field hn hf
  case h_24 => simp [withdrawAnswer, hn, show word32At f.payload 0 = 0 from hf]
  case h_25 => exact pathBeginAnswer_of_field hn hf
  case h_27 => simp [pathEndAnswer, hn, laneOf_none hf]
  case h_28 => exact pathKeepAnswer_of_field hn hf
  case h_29 => simp [pathDiscardAnswer, hn, laneOf_none hf]

/-- A frame whose answer is a refusal leaves the receive queue, and the status alone is replied. -/
theorem exec_commandOf_refused {s : State} {p : Port} {f : Frame} {rest : List Frame} {e : Status}
    (hready : s.Ready p f rest) (hok : e ≠ .ok) (hclamped : e ≠ .clamped)
    (h : commandAnswer p f (s.taken p rest) = refuse e (s.taken p rest)) :
    exec (commandOf p f) s = .next ((s.taken p rest).answered p (s.txLength p) (reply f e [])) := by
  rw [exec_commandOf, takeCommand_refused p f rest _ s e hready hok hclamped h]

/-- A length step refuses with BAD_LENGTH or BAD_VALUE. -/
theorem lengthStep_status {k : Byte} {d : List Byte} {e : Status} (h : lengthStep k d = some e) :
    e = .badLength ∨ e = .badValue := by
  unfold lengthStep at h
  dsimp only at h
  repeat' split at h
  all_goals cases h <;> simp

/-- The KINDs of table 1.4. -/
def commandKinds : List Nat :=
  [0x01, 0x02, 0x03, 0x04, 0x05, 0x06, 0x07, 0x10, 0x11, 0x12, 0x13, 0x20, 0x21, 0x22, 0x23, 0x24, 0x25, 0x30, 0x31, 0x32,
    0x33, 0x34, 0x40, 0x41, 0x50, 0x51, 0x52, 0x53, 0x54, 0x60]

/-- R7: the KINDs of table 1.4 that the Bench Port may not send. -/
def lineOnlyKinds : List Nat :=
  [0x10, 0x11, 0x12, 0x13, 0x20, 0x21, 0x22, 0x23, 0x24, 0x25, 0x30, 0x32, 0x33, 0x34, 0x40, 0x41, 0x50, 0x51, 0x52, 0x53,
    0x54]

theorem lineOnlyKinds_subset : lineOnlyKinds ⊆ commandKinds := by decide

theorem not_benchKinds_of_lineOnly : ∀ n ∈ lineOnlyKinds, n ∉ benchKinds := by decide

theorem isCommandKind_iff (k : Byte) : isCommandKind k = true ↔ k.toNat ∈ commandKinds :=
  List.contains_iff_mem

/-- A KIND that no row of table 1.4 lists is taken as BAD_KIND_COMMAND. -/
theorem commandOf_badKind (p : Port) (k tag : Byte) (payload : List Byte) (h : isCommandKind k = false) :
    commandOf p ⟨k, tag, payload⟩ = .badKindCommand p k tag payload := by
  unfold commandOf
  split
  case h_31 => rfl
  all_goals
    rename_i hk
    simp [isCommandKind, show k.toNat = _ from hk] at h

theorem permitted_taken {s : State} {p : Port} {f : Frame} {rest : List Frame}
    (h : match p with
      | .line => f.kind.toNat ∈ commandKinds ∧ (f.kind = 0x60#8 → s.settings.remoteDisposition = true)
      | .bench => f.kind.toNat ∈ benchKinds) :
    Permitted p f (s.taken p rest) := by
  cases p with
  | line =>
    refine ⟨(isCommandKind_iff _).2 h.1, .inl rfl, fun _ hk => ?_⟩
    rw [taken_settings]
    exact h.2 (BitVec.eq_of_toNat_eq hk)
  | bench =>
    have hsub : benchKinds ⊆ commandKinds := by decide
    exact ⟨(isCommandKind_iff _).2 (hsub h), .inr h, nofun⟩

end Sys2Proof.Machine

open Sys2Proof Machine in
/-- Settles O9: KIND, port, length and common fields, each check in its place before a command's own conditions. -/
theorem Sys2Proof.checksRefuseInOrder : Obligations.ChecksRefuseInOrder := by
  refine ⟨fun s p k tag payload rest hk hready => ?_, fun s f rest => ⟨fun hk hready => ?_, fun hk hremote hready => ?_⟩,
    fun s p f rest hperm hready => ⟨fun e he => ?_, fun hlen hfail => ?_⟩⟩
  · have hbad : isCommandKind k = false := Bool.eq_false_iff.2 (mt (isCommandKind_iff k).1 hk)
    have hrow := commandOf_badKind p k tag payload hbad
    refine ⟨hrow, ?_⟩
    rw [← hrow]
    exact exec_commandOf_refused hready nofun nofun (by rw [commandAnswer_of_badKind p _ hbad])
  · exact exec_commandOf_refused hready nofun nofun (commandAnswer_wrongPort_bench f _
      ((isCommandKind_iff _).2 (lineOnlyKinds_subset hk)) (not_benchKinds_of_lineOnly _ hk))
  · exact exec_commandOf_refused hready nofun nofun
      (commandAnswer_wrongPort_line f _ hk (by rw [taken_settings]; exact hremote))
  · obtain ⟨hok, hclamped⟩ : e ≠ .ok ∧ e ≠ .clamped := by rcases lengthStep_status he with rfl | rfl <;> exact ⟨nofun, nofun⟩
    exact exec_commandOf_refused hready hok hclamped (commandAnswer_of_lengthStep (permitted_taken hperm) he)
  · exact exec_commandOf_refused hready nofun nofun (commandAnswer_of_commonField (permitted_taken hperm) hlen hfail)
end

section
/-!
Identification, status and the event commands (O10, O11).
-/

namespace Sys2Proof.Machine

open Sys2Proof

/-- A command carried out with `data` replied: the frame has left the receive queue, `t` follows, and the reply is OK. -/
theorem exec_accepted {i : Instr} {p : Port} {f : Frame} {rest : List Frame} {body : State → Answer} {s t : State}
    {data : List Byte} (hready : s.Ready p f rest) (hexec : exec i s = .next (takeCommand p f body s))
    (hbody : body (s.taken p rest) = accept data t) :
    exec i s = .next (t.answered p (s.txLength p) (reply f .ok data)) := by
  rw [hexec, takeCommand_accepted p f rest body s t data hready hbody]

/-- A command refused: the frame has left the receive queue, and the status alone is replied. -/
theorem exec_refused {i : Instr} {p : Port} {f : Frame} {rest : List Frame} {body : State → Answer} {s : State}
    {e : Status} (hready : s.Ready p f rest) (hexec : exec i s = .next (takeCommand p f body s)) (hok : e ≠ .ok)
    (hclamped : e ≠ .clamped) (hbody : body (s.taken p rest) = refuse e (s.taken p rest)) :
    exec i s = .next ((s.taken p rest).answered p (s.txLength p) (reply f e [])) := by
  rw [hexec, takeCommand_refused p f rest body s e hready hok hclamped hbody]

/-! ### GET_STATUS (R16) -/

@[simp] theorem taken_line_frameErrors (s : State) (p : Port) (rest : List Frame) :
    (s.taken p rest).line.frameErrors = s.line.frameErrors := by cases p <;> rfl

@[simp] theorem taken_bench_frameErrors (s : State) (p : Port) (rest : List Frame) :
    (s.taken p rest).bench.frameErrors = s.bench.frameErrors := by cases p <;> rfl

@[simp] theorem taken_events (s : State) (p : Port) (rest : List Frame) :
    ((s.taken p rest).port p).events = (s.port p).events := by cases p <;> rfl

theorem boardSerial_eq (s : State) (l : LaneId) :
    s.boardSerial l = match s.records.find? fun b => decide (b.location = .lane l) with
      | some b => b.serial
      | none => 0 := by
  have hboard : s.board l = s.records.find? fun b => decide (b.location = .lane l) := by
    simp [State.board, BEq.beq]
  rw [State.boardSerial, hboard]
  cases s.records.find? fun b => decide (b.location = .lane l) <;> rfl

theorem taken_laneStatus (s : State) (p : Port) (rest : List Frame) (l : LaneId) :
    (s.taken p rest).laneStatus l = s.laneStatus l := by
  simp [State.laneStatus, State.boardSerial]

theorem taken_statusBytes (s : State) (p : Port) (rest : List Frame) :
    (s.taken p rest).statusBytes = s.statusBytes := by
  simp [State.statusBytes, State.clearing, taken_laneStatus]

theorem getStatusAnswer_nil (s : State) : getStatusAnswer [] s = accept s.statusBytes s := rfl

/-! ### Event kinds in payloads -/

@[simp] theorem eventIndexOf_toByte (i : Fin 19) : eventIndexOf (toByte (i.val + 1)) = some i := by
  have hval : (toByte (i.val + 1)).toNat = i.val + 1 := by
    rw [toByte, BitVec.toNat_ofNat, Nat.mod_eq_of_lt (by omega)]
  simp [eventIndexOf, hval]

theorem eventKinds_toByte (ks : List (Fin 19)) :
    (ks.map fun k => toByte (k.val + 1)).mapM eventIndexOf = some ks := by
  rw [mapM_some_iff, List.forall₂_map_left_iff]
  exact List.forall₂_same.2 fun k _ => eventIndexOf_toByte k

/-- R9: the count byte of a record. -/
theorem countByte_eq (r : Option EventRecord) :
    toByte (recordCount r) = match r with
      | some r => toByte r.count
      | none => 0#8 := by
  cases r <;> rfl

/-- R12: every listed kind is clear afterwards, and no other record changes. -/
theorem ackAll_events (evs : Vector (Option EventRecord) 19) (ks : List (Fin 19)) :
    (ackAll evs ks).1 = Vector.ofFn fun i => if i ∈ ks then none else evs[i] := by
  refine Vector.ext fun i hi => ?_
  rw [Vector.getElem_ofFn]
  exact ackAll_get evs ks ⟨i, hi⟩

/-- R12: the count each listed record held just before it was cleared: 0 at a second listing. -/
theorem ackAll_counts (evs : Vector (Option EventRecord) 19) (ks : List (Fin 19)) :
    (ackAll evs ks).2 = (List.finRange ks.length).map fun j =>
      if ks.get j ∈ ks.take j.val then 0#8 else toByte (recordCount evs[ks.get j]) := by
  induction ks generalizing evs with
  | nil => rfl
  | cons k rest ih =>
    have hcount (i : Fin 19) (before : List (Fin 19)) :
        (if i ∈ before then 0#8 else toByte (recordCount (evs.set k none)[i])) =
          if i ∈ k :: before then 0#8 else toByte (recordCount evs[i]) := by
      by_cases hk : k = i
      · simp [hk, recordCount, toByte]
      · simp [Vector.getElem_set_ne, Fin.val_ne_of_ne hk, Ne.symm hk]
    simp only [ackAll, ih, List.length_cons, List.finRange_succ, List.map_cons, List.map_map]
    exact List.cons_eq_cons.2 ⟨by simp, List.map_congr_left fun j _ => hcount (rest.get j) (rest.take j.val)⟩

end Sys2Proof.Machine

open Sys2Proof Machine in
/-- Settles O10: the fields are read off the state with the frame taken, which has them all unchanged. -/
theorem Sys2Proof.identificationAndStatusReplies : Obligations.IdentificationAndStatusReplies := by
  refine ⟨fun s p tag rest hready => exec_accepted hready rfl rfl, fun s p tag rest hready => ⟨rfl, ?_⟩⟩
  rw [exec_accepted hready rfl (getStatusAnswer_nil _), taken_statusBytes, State.statusBytes, State.laneStatus, State.laneStatus,
    boardSerial_eq, boardSerial_eq]
  rfl

namespace Sys2Proof.Machine

open Sys2Proof

/-- R13: with LEN 0 the reply is the 19 counts. -/
theorem getEventsAnswer_counts (p : Port) (s : State) :
    getEventsAnswer p [] s = accept ((List.finRange 19).map fun i => toByte (recordCount (s.port p).events[i])) s := by
  refine congrArg (accept · s) (List.ext_getElem (by simp) fun i _ _ => ?_)
  simp

/-- R13: with LEN 1 the reply is the record of the kind. -/
theorem getEventsAnswer_record (p : Port) (i : Fin 19) (s : State) :
    getEventsAnswer p [toByte (i.val + 1)] s = accept (recordBytes i (s.port p).events[i]) s := by
  simp [getEventsAnswer]

theorem ackEventsAnswer_kinds (p : Port) {ks : List (Fin 19)} (hne : ks ≠ []) (hlen : ks.length ≤ 19) (s : State) :
    ackEventsAnswer p (ks.map fun k => toByte (k.val + 1)) s =
      accept (ackAll (s.port p).events ks).2
        (s.modPort p fun ps => { ps with events := Vector.ofFn fun i => if i ∈ ks then none else ps.events[i] }) := by
  have hpos := List.length_pos_iff.2 hne
  rw [ackEventsAnswer, if_neg (by rw [List.length_map]; omega), eventKinds_toByte]
  dsimp only
  rw [ackAll_events]
  exact congrArg (accept _) (modPort_congr rfl)

theorem setNoticeMaskAnswer_kinds (p : Port) {ks : List (Fin 19)} (hlen : ks.length ≤ 19) (s : State) :
    setNoticeMaskAnswer p (ks.map fun k => toByte (k.val + 1)) s =
      accept [] (s.modPort p fun ps => { ps with mask := setOf 19 fun i => ks.contains i }) := by
  rw [setNoticeMaskAnswer, if_neg (by rw [List.length_map]; omega), eventKinds_toByte]

end Sys2Proof.Machine

open Sys2Proof Machine in
/-- Settles O11: the listed kinds are read back from their bytes, and each command acts on its own port's records. -/
theorem Sys2Proof.eventCommandsReportClearAndMask : Obligations.EventCommandsReportClearAndMask := by
  refine ⟨fun s p tag rest => ⟨fun hready => ?_, fun i hready => ?_⟩, fun s p tag rest ks hne hlen => ?_,
    fun s p tag rest ks hlen => ?_⟩
  · rw [exec_accepted hready rfl (getEventsAnswer_counts p _)]
    simp only [taken_events, countByte_eq]
    rfl
  · rw [exec_accepted hready rfl (getEventsAnswer_record p i _), taken_events]
    cases (s.port p).events[i] <;> rfl
  · intro payload hready
    rw [exec_accepted hready rfl (ackEventsAnswer_kinds p hne hlen _), ackAll_counts, taken_events]
    simp only [countByte_eq]
    rfl
  · intro payload hready
    rw [exec_accepted hready rfl (setNoticeMaskAnswer_kinds p hlen _)]
    simp only [Machine.setOf, List.contains_eq_mem]
    rfl
end

section
/-!
Line settings, resets and the step (O12, O13, O1, O2, O14).
-/

namespace Sys2Proof.Machine

open Sys2Proof

/-! ### The step -/

theorem step_of_ownCommand {s : State} {c : Instr} (hempty : s.pending = []) (hown : s.ownCommand = some c) :
    step s = exec c s := by
  rw [step, hempty, hown]

theorem step_of_idle {s : State} (hempty : s.pending = []) (hown : s.ownCommand = none) : step s = .next s.tick := by
  rw [step, hempty, hown]

/-! ### SET_LINE_CONFIG (R14) -/

theorem onOffOf_flagByte (b : Bool) : onOffOf (flagByte b) = some b := by cases b <;> rfl

theorem inRange_iff (c : LineSettings) :
    c.inRange = true ↔ 2000 ≤ c.transferTimeout ∧ c.transferTimeout ≤ 60000 ∧ c.entrySpacing ≤ 5000 ∧
      500 ≤ c.zoneStaleLimit ∧ c.zoneStaleLimit ≤ 10000 ∧ c.exitWindow ≤ 2000 := by
  simp [LineSettings.inRange, and_assoc]

/-- The payload that carries five settings. -/
def LineSettings.payload (c : LineSettings) : List Byte :=
  bytes16 c.transferTimeout ++ bytes16 c.entrySpacing ++ bytes16 c.zoneStaleLimit ++ bytes16 c.exitWindow ++
    [flagByte c.remoteDisposition]

/-- R14: the settings a payload carries are read back, and take effect when each is in its range. -/
theorem setLineConfigAnswer_payload {c : LineSettings} (h1 : c.transferTimeout < 65536) (h2 : c.entrySpacing < 65536)
    (h3 : c.zoneStaleLimit < 65536) (h4 : c.exitWindow < 65536) (s : State) :
    setLineConfigAnswer .line c.payload s =
      if c.inRange then accept [] (State.judgeZones { s with settings := c } (List.finRange 6)).reevaluate
      else refuse .badValue s := by
  have w1 : word16At c.payload 0 = c.transferTimeout := (word16At_bytes16 _ []).trans (Nat.mod_eq_of_lt h1)
  have w2 : word16At c.payload 2 = c.entrySpacing := (word16At_bytes16 _ []).trans (Nat.mod_eq_of_lt h2)
  have w3 : word16At c.payload 4 = c.zoneStaleLimit := (word16At_bytes16 _ []).trans (Nat.mod_eq_of_lt h3)
  have w4 : word16At c.payload 6 = c.exitWindow := (word16At_bytes16 _ []).trans (Nat.mod_eq_of_lt h4)
  have flag : byteAt c.payload 8 = flagByte c.remoteDisposition := rfl
  rw [setLineConfigAnswer, if_neg (by simp), if_neg (by simp [LineSettings.payload]), flag, onOffOf_flagByte]
  dsimp only
  rw [w1, w2, w3, w4]
  cases c.inRange <;> rfl

end Sys2Proof.Machine

open Sys2Proof Machine in
/-- Settles O12: the settings read back from their bytes take effect exactly when each is in its range. -/
theorem Sys2Proof.setLineConfigReplacesSettings : Obligations.SetLineConfigReplacesSettings := by
  intro s tag rest timeout spacing stale window remote h1 h2 h3 h4 payload hready
  have hanswer := setLineConfigAnswer_payload (c := ⟨timeout, spacing, stale, window, remote⟩) h1 h2 h3 h4
    (s.taken .line rest)
  by_cases hrange : 2000 ≤ timeout ∧ timeout ≤ 60000 ∧ spacing ≤ 5000 ∧ 500 ≤ stale ∧ stale ≤ 10000 ∧ window ≤ 2000
  · rw [if_pos ((inRange_iff _).2 hrange)] at hanswer
    rw [if_pos hrange, exec_accepted hready rfl hanswer]
    rfl
  · rw [if_neg (mt (inRange_iff _).1 hrange)] at hanswer
    rw [if_neg hrange]
    exact exec_refused (e := .badValue) hready rfl nofun nofun hanswer

open Sys2Proof Machine in
/-- Settles O13: the resets of the blocks, each on its own fields, give the cleared line. -/
theorem Sys2Proof.lineResetClearsLineAndKeepsSettings : Obligations.LineResetClearsLineAndKeepsSettings :=
  fun s _ rest hready => exec_accepted (t := (s.taken .line rest).resetLine) hready rfl rfl

open Sys2Proof Machine in
/-- Settles O1: the dispatch on the queue of commands waiting. -/
theorem Sys2Proof.stepRunsFrontCommand : Obligations.StepRunsFrontCommand := fun _ _ _ => rfl

open Sys2Proof Machine in
/-- Settles O2: on an empty queue the step looks for work of the part's own. -/
theorem Sys2Proof.emptyQueueRunsDueWorkElseTick : Obligations.EmptyQueueRunsDueWorkElseTick := by
  exact fun s hempty => ⟨fun c hown => step_of_ownCommand hempty hown, fun hown => step_of_idle hempty hown⟩

namespace Sys2Proof.Machine

open Sys2Proof

/-! ### Power-on values -/

theorem reset_slot (i : Fin 8) : State.reset.store.slots[i] = RecipeSlot.cleared := by
  simp [State.reset, RecipeStore.reset]

theorem reset_port (p : Port) : State.reset.port p = PortState.reset := by cases p <;> rfl

theorem reset_lane (l : LaneId) : State.reset.lane l = Lane.reset := by cases l <;> rfl

/-- R83: every output of a lane is off. -/
theorem reset_outputs (l : LaneId) :
    State.reset.valveDrive l .bead = false ∧ State.reset.valveDrive l .atomize = false ∧
      State.reset.ejectDrive l = false ∧ State.reset.gateRelease (.lane l) = false ∧
      State.reset.busyLine l = false := by
  cases l <;> exact ⟨rfl, rfl, rfl, rfl, rfl⟩

end Sys2Proof.Machine

open Sys2Proof Machine in
/-- Settles O14, block by block. -/
theorem Sys2Proof.resetIsThePowerOnState : Obligations.ResetIsThePowerOnState := by
  refine ⟨rfl, fun p => ?port, rfl, rfl, rfl, fun i => ?slot, rfl, rfl, fun l => ?lane, rfl, rfl, rfl, rfl, rfl, rfl,
    rfl, rfl, rfl, rfl, rfl, fun z => ?zone, rfl, rfl, rfl⟩
  case port =>
    rw [reset_port]
    exact ⟨rfl, rfl, rfl, rfl, rfl, fun i => ⟨Vector.getElem_replicate _, Vector.getElem_replicate _⟩⟩
  case slot =>
    rw [reset_slot]
    exact ⟨rfl, rfl, rfl, rfl, rfl, rfl, rfl, rfl, clearedMap_get⟩
  case lane =>
    dsimp only
    rw [reset_lane]
    exact ⟨⟨rfl, rfl, rfl, rfl, rfl, rfl, rfl, rfl⟩, ⟨rfl, rfl, rfl, rfl, rfl, rfl, rfl, rfl, rfl, rfl, rfl, rfl⟩,
      ⟨rfl, rfl, rfl, rfl, rfl⟩, ⟨rfl, rfl, rfl, rfl, rfl, rfl, rfl, rfl, rfl, rfl⟩, rfl, reset_outputs l⟩
  case zone => exact Vector.getElem_replicate _

end

section
/-!
Recipes in use (O21): nothing but the recipe commands and the clear timer writes the Recipe Store, and nothing but ANNOUNCE
and PATH_BEGIN makes a reference to a slot where there was none.
-/

namespace Sys2Proof.Machine

open Sys2Proof

/-- A part of an occurrence that leaves the Recipe Store alone, and makes no record where there was none and opens no path
that was EMPTY. -/
structure NoNewReference (s t : State) : Prop where
  store : t.store = s.store
  records : s.records = [] → t.records = []
  paths : ∀ l, (s.lane l).path.state = .empty → (t.lane l).path.state = .empty

namespace NoNewReference

variable {s t u : State} {l : LaneId} {n : Serial} {b : BoardRecord}

theorem refl (s : State) : NoNewReference s s := ⟨rfl, id, fun _ => id⟩

theorem trans (h : NoNewReference s t) (g : NoNewReference t u) : NoNewReference s u :=
  ⟨g.store.trans h.store, g.records ∘ h.records, fun l => g.paths l ∘ h.paths l⟩

theorem ite {c : Prop} [Decidable c] (h : c → NoNewReference s t) (g : ¬c → NoNewReference s u) :
    NoNewReference s (if c then t else u) := by
  split
  · exact h ‹_›
  · exact g ‹_›

/-! ### Changes of one block -/

theorem modLane {f : Lane → Lane} (hf : (t.lane l).path.state = .empty → (f (t.lane l)).path.state = .empty)
    (h : NoNewReference s t) : NoNewReference s (t.modLane l f) := by
  refine h.trans ⟨by simp, by simp, fun m => ?_⟩
  by_cases hm : m = l
  · subst hm
    simpa using hf
  · rw [modLane_lane_ne t l m f hm]
    exact id

theorem modPath {f : PathExec → PathExec} (hf : (t.lane l).path.state = .empty → (f (t.lane l).path).state = .empty)
    (h : NoNewReference s t) : NoNewReference s (t.modPath l f) := .modLane hf h

theorem modCtl {f : LaneCtl → LaneCtl} (h : NoNewReference s t) : NoNewReference s (t.modCtl l f) := .modLane id h

theorem modStation {f : StationPort → StationPort} (h : NoNewReference s t) : NoNewReference s (t.modStation l f) :=
  .modLane id h

theorem modChecker {f : MaskChecker → MaskChecker} (h : NoNewReference s t) : NoNewReference s (t.modChecker l f) :=
  .modLane id h

theorem modMeter {f : FlowMeter → FlowMeter} (h : NoNewReference s t) : NoNewReference s (t.modMeter l f) :=
  .modLane id h

theorem setLaneState {x : LaneState} (h : NoNewReference s t) : NoNewReference s (t.setLaneState l x) := .modCtl h

theorem modPort {p : Port} {f : PortState → PortState} (h : NoNewReference s t) : NoNewReference s (t.modPort p f) :=
  h.trans ⟨by simp, by simp, fun m => by simp⟩

theorem setGate {g : Gate} (h : NoNewReference s t) : NoNewReference s { t with gate := g } :=
  h.trans ⟨rfl, id, fun m => by cases m <;> exact id⟩

theorem setOven {o : Oven} (h : NoNewReference s t) : NoNewReference s { t with oven := o } :=
  h.trans ⟨rfl, id, fun m => by cases m <;> exact id⟩

theorem setHolds {hs : List HoldEntry} (h : NoNewReference s t) : NoNewReference s { t with holds := hs } :=
  h.trans ⟨rfl, id, fun m => by cases m <;> exact id⟩

theorem setSettings {c : LineSettings} (h : NoNewReference s t) : NoNewReference s { t with settings := c } :=
  h.trans ⟨rfl, id, fun m => by cases m <;> exact id⟩

theorem setFreeCount {k : Nat} (h : NoNewReference s t) : NoNewReference s { t with freeCount := k } :=
  h.trans ⟨rfl, id, fun m => by cases m <;> exact id⟩

theorem raise {k : EventKind} {x : Option LaneId} {c : Nat} (h : NoNewReference s t) :
    NoNewReference s (raise k x n c t) := h.trans ⟨rfl, id, fun m => by cases m <;> exact id⟩

theorem modRecord {f : BoardRecord → BoardRecord} (h : NoNewReference s t) : NoNewReference s (t.modRecord n f) :=
  h.trans ⟨rfl, fun hr => by simp [State.modRecord, hr], fun m => by simp⟩

theorem removeRecord (h : NoNewReference s t) : NoNewReference s (t.removeRecord n) :=
  h.trans ⟨rfl, fun hr => by simp [State.removeRecord, hr], fun m => by simp⟩

theorem addReason {r : Reason} (h : NoNewReference s t) : NoNewReference s (t.addReason n r) := .modRecord h

theorem removeHold (h : NoNewReference s t) : NoNewReference s (t.removeHold n) := .setHolds h

theorem joinQueue {e : QueueEntry} (h : NoNewReference s t) : NoNewReference s (t.joinQueue l e) := .modCtl h

theorem leaveQueue (h : NoNewReference s t) : NoNewReference s (t.leaveQueue l n) := .modCtl h

/-! ### Holds (R168 to R172) -/

theorem grantHold {loc : HoldLocation} (h : NoNewReference s t) : NoNewReference s (t.grantHold b loc) :=
  .raise (.modRecord (.setHolds h))

theorem overflow {code : Nat} (h : NoNewReference s t) : NoNewReference s (t.overflow b code) := .raise (.removeRecord h)

theorem ovenHold {loc : HoldLocation} (h : NoNewReference s t) : NoNewReference s (t.ovenHold b loc) :=
  .ite (fun _ => .grantHold h) fun _ => .overflow h

theorem letGo (h : NoNewReference s t) : NoNewReference s (t.letGo l) := by
  unfold State.letGo
  exact .modPath id (.setGate h)

theorem enterEjecting {x : Option Serial} (h : NoNewReference s t) : NoNewReference s (t.enterEjecting l x) := .modCtl h

theorem laneHold (h : NoNewReference s t) : NoNewReference s (t.laneHold l n) := by
  rcases laneHold_cases t l n with ⟨_, he⟩ | ⟨b, _, _, he⟩ | ⟨b, _, _, he⟩
  · rw [he]
    exact h
  · rw [he]
    exact .enterEjecting (.grantHold (.letGo h))
  · rw [he]
    exact .raise (.setLaneState (.modRecord (.letGo h)))

theorem retryLane (h : NoNewReference s t) : NoNewReference s (t.retryLane l) := by
  rcases retryLane_cases t l with he | ⟨b, _, _, _, he⟩
  · rw [he]
    exact h
  · rw [he]
    exact .enterEjecting (.grantHold h)

theorem retryBlocked (h : NoNewReference s t) : NoNewReference s t.retryBlocked := .retryLane (.retryLane h)

/-! ### The gate and the transfer (R140 to R150) -/

theorem grantTo {src : Source} (h : NoNewReference s t) : NoNewReference s (t.grantTo src) := by
  unfold State.grantTo
  cases src with
  | lane l =>
    cases he : t.gate.exit l with
    | none =>
      simp only [he]
      exact .setGate h
    | some w =>
      simp only [he]
      exact .setGate (.setLaneState (.modRecord (.setGate h)))
  | returnStation =>
    cases t.gate.station with
    | none => exact .setGate h
    | some w => exact .setGate (.modRecord (.setGate h))

theorem reevaluate (h : NoNewReference s t) : NoNewReference s t.reevaluate := by
  rcases reevaluate_cases t with he | ⟨c, _, _, he⟩
  · rw [he]
    exact h
  · rw [he]
    exact .grantTo h

theorem reevaluateStation (h : NoNewReference s t) : NoNewReference s t.reevaluateStation :=
  .ite (fun _ => .reevaluate h) fun _ => h

theorem reevaluateExit (h : NoNewReference s t) : NoNewReference s (t.reevaluateExit l) :=
  .ite (fun _ => .reevaluate h) fun _ => h

theorem presenceChange {level : Bool} (h : NoNewReference s t) : NoNewReference s (t.presenceChange level) :=
  .ite (fun _ => .reevaluateStation (.setGate h)) fun _ => .setGate h

theorem flashReady {src : Source} {w : Waiting} (h : NoNewReference s t) : NoNewReference s (t.flashReady src w) :=
  .ite (fun _ => .setGate h) fun _ => .reevaluate (.setGate h)

theorem emptyStation (h : NoNewReference s t) : NoNewReference s t.emptyStation := .setGate h

theorem endGrant (h : NoNewReference s t) : NoNewReference s t.endGrant := .setGate h

theorem stationFails {r : Reason} (h : NoNewReference s t) : NoNewReference s (t.stationFails n r) := by
  unfold State.stationFails
  split
  · exact .emptyStation h
  · exact .emptyStation (.ovenHold (.addReason h))

theorem enterOven (h : NoNewReference s t) : NoNewReference s (t.enterOven n) := .modRecord (.setOven h)

/-! ### A lane's states (R60 to R66, R87) -/

theorem startCheck (h : NoNewReference s t) : NoNewReference s (t.startCheck l b) :=
  .modChecker (.setLaneState (.modRecord h))

theorem takeArrived (h : NoNewReference s t) : NoNewReference s (t.takeArrived l n) := by
  rcases takeArrived_cases t l n with ⟨_, he⟩ | ⟨_, ⟨_, he⟩ | ⟨b, _, _, he⟩ | ⟨b, _, _, he⟩⟩
  · rw [he]
    exact .enterEjecting (.raise h)
  · rw [he]
    exact h
  · rw [he]
    exact .startCheck (.leaveQueue h)
  · rw [he]
    exact .laneHold (.addReason (.leaveQueue h))

theorem serveArrived (h : NoNewReference s t) : NoNewReference s (t.serveArrived l) := by
  unfold State.serveArrived
  split
  · dsimp only
    split
    · exact .takeArrived (.modStation h)
    · exact .raise (.modStation h)
    · exact h
  · exact h

theorem enterIdle (h : NoNewReference s t) : NoNewReference s (t.enterIdle l) := .serveArrived (.modCtl h)

theorem freeSource {src : Source} (h : NoNewReference s t) : NoNewReference s (t.freeSource src) := by
  cases src with
  | lane l => exact .enterIdle h
  | returnStation => exact .emptyStation h

theorem transferFails {src : Source} (h : NoNewReference s t) : NoNewReference s (t.transferFails src) := by
  unfold State.transferFails
  split
  · exact .endGrant h
  · cases src with
    | lane l => exact .laneHold (.addReason (.endGrant h))
    | returnStation => exact .stationFails (.endGrant h)

/-! ### DISPOSE and escalation (R173 to R178) -/

theorem disposeOut {k : EventKind} (h : NoNewReference s t) : NoNewReference s (t.disposeOut k b) :=
  .retryBlocked (.raise (.removeRecord (.removeHold h)))

theorem disposeRespray {areas : FlagSet 12} (h : NoNewReference s t) : NoNewReference s (t.disposeRespray b l areas) :=
  .retryBlocked (.joinQueue (.modRecord (.removeHold h)))

theorem disposeRecure (h : NoNewReference s t) : NoNewReference s (t.disposeRecure b) :=
  .retryBlocked (.reevaluateStation (.setGate (.modRecord (.removeHold h))))

theorem escalate {e : HoldEntry} (h : NoNewReference s t) : NoNewReference s (t.escalate n e l) :=
  .raise (.addReason (.setHolds h))

/-! ### The oven (R154 to R164) -/

theorem makeStale {z : Fin 6} (h : NoNewReference s t) : NoNewReference s (t.makeStale z) := .raise (.setOven h)

theorem judgeZones {zs : List (Fin 6)} (h : NoNewReference s t) : NoNewReference s (t.judgeZones zs) := by
  induction zs generalizing t with
  | nil => exact h
  | cons z rest ih => exact ih (.ite (fun _ => .makeStale h) fun _ => h)

theorem judgeSensor {d : List Byte} (h : NoNewReference s t) : NoNewReference s (t.judgeSensor d) := by
  unfold State.judgeSensor
  split
  · exact h
  · exact .ite (fun _ => .setOven h) fun _ => h

theorem sensorWaiting (h : NoNewReference s t) : NoNewReference s t.sensorWaiting := .setOven h

theorem sensorByte {c : Byte} {stop : Bool} (h : NoNewReference s t) : NoNewReference s (t.sensorByte c stop) :=
  .ite (fun _ => .sensorWaiting h) fun _ => .ite (fun _ => h) fun _ =>
    .ite (fun _ => .setOven h) fun _ => .judgeSensor (.sensorWaiting h)

theorem restartDose (h : NoNewReference s t) : NoNewReference s t.restartDose := .setOven h

theorem doseAll {es : List OvenEntry} (h : NoNewReference s t) : NoNewReference s (t.doseAll es) := by
  induction es generalizing t with
  | nil => exact h
  | cons e rest ih => exact ih (.modRecord h)

theorem judgeExit (h : NoNewReference s t) : NoNewReference s (t.judgeExit b) :=
  .ite (fun _ => .ovenHold (.modRecord h)) fun _ => .raise (.removeRecord h)

theorem popHead {e : OvenEntry} {rest : List OvenEntry} (h : NoNewReference s t) : NoNewReference s (t.popHead e rest) := by
  unfold State.popHead
  dsimp only
  split
  · exact .setOven h
  · exact .judgeExit (.setOven h)

/-! ### Metering (R69, R124 to R136) -/

theorem countDeviation (h : NoNewReference s t) : NoNewReference s (t.countDeviation l) :=
  .ite (fun _ => .raise (.modCtl h)) fun _ => .modCtl h

theorem handOver {seg : Segment} {p k : Nat} (h : NoNewReference s t) : NoNewReference s (t.handOver l seg p k) := by
  unfold State.handOver
  split
  · exact h
  · exact .ite (fun _ => .countDeviation (.addReason (.modRecord h))) fun _ => .modRecord h

theorem handOverAll {segs : List Segment} (h : NoNewReference s t) : NoNewReference s (t.handOverAll l segs) := by
  induction segs generalizing t with
  | nil => exact h
  | cons seg rest ih => exact ih (.handOver h)

theorem enterExitWait (h : NoNewReference s t) : NoNewReference s (t.enterExitWait l b) :=
  .setGate (.setLaneState (.modRecord h))

theorem judgePass (h : NoNewReference s t) : NoNewReference s (t.judgePass l n) := by
  unfold State.judgePass
  split
  · exact h
  · exact .ite (fun _ => .laneHold (.modRecord h)) fun _ => .enterExitWait (.modRecord h)

theorem boardDrip (h : NoNewReference s t) : NoNewReference s (t.boardDrip l) := by
  unfold State.boardDrip
  split
  · exact h
  · exact .modRecord h

theorem flowPulse (h : NoNewReference s t) : NoNewReference s (t.flowPulse l) := by
  unfold State.flowPulse
  split
  · exact .modMeter h
  · exact .modMeter h
  · exact .boardDrip h
  · exact .boardDrip h
  · exact .boardDrip h
  · exact .boardDrip h
  · exact .modMeter h

/-! ### The path (R110 to R119) -/

theorem raiseQueueEmpty (h : NoNewReference s t) : NoNewReference s (raiseQueueEmpty l t) :=
  .ite (fun _ => .raise h) fun _ => .raise (.setFreeCount h)

theorem judgeFall {before : Nat} (h : NoNewReference s t) : NoNewReference s (t.judgeFall l before) :=
  .ite (fun _ => .ite (fun _ => .raiseQueueEmpty (.ite (fun _ => .raise h) fun _ => h))
    fun _ => .ite (fun _ => .raise h) fun _ => h) fun _ => h

/-- R119: a path that is settled stays EMPTY or becomes it, unless it is a COMPLETE one that is kept. -/
theorem settlePath (h : NoNewReference s t) : NoNewReference s (t.modPath l PathExec.settled) := by
  refine .modPath (fun he => ?_) h
  unfold PathExec.settled
  split
  · exact he
  · rfl

theorem sprayEnd (h : NoNewReference s t) : NoNewReference s (t.sprayEnd l) := by
  unfold State.sprayEnd
  split
  · exact h
  · exact .reevaluateExit (.settlePath (.judgePass (.modRecord (.modPath id h))))

theorem startGap (h : NoNewReference s t) : NoNewReference s (t.startGap l) := by
  unfold State.startGap
  exact .modPath id h

theorem afterOutcome (h : NoNewReference s t) : NoNewReference s (t.afterOutcome l) :=
  .ite (fun _ => .sprayEnd h) fun _ => .startGap h

theorem finishSegment (h : NoNewReference s t) : NoNewReference s (t.finishSegment l) := by
  unfold State.finishSegment
  refine .afterOutcome (.judgeFall (.modPath id ?_))
  split
  · exact .handOver h
  · exact h

theorem enterClosing {seg : Segment} {k : Nat} (h : NoNewReference s t) : NoNewReference s (t.enterClosing l seg k) :=
  .ite (fun _ => .finishSegment (.modPath id h)) fun _ => .modPath id h

theorem coatBoard (h : NoNewReference s t) : NoNewReference s (t.coatBoard l) := by
  unfold State.coatBoard
  split
  · exact h
  · exact .modRecord h

theorem endOpenDelay {seg : Segment} (h : NoNewReference s t) : NoNewReference s (t.endOpenDelay l seg) :=
  .ite (fun _ => .finishSegment (.modPath id h)) fun _ => .coatBoard (.modPath id h)

theorem startSegment {seg : Segment} (h : NoNewReference s t) : NoNewReference s (t.startSegment l seg) :=
  .ite (fun _ => .endOpenDelay (.modPath id (.modMeter h))) fun _ => .modPath id (.modMeter h)

theorem enterSpraying (h : NoNewReference s t) : NoNewReference s (t.enterSpraying l n) :=
  .ite (fun _ => .setLaneState (.modRecord h)) fun _ => h

theorem skipTo {k : Nat} (h : NoNewReference s t) : NoNewReference s (t.skipTo l n k) :=
  .ite (fun _ => .addReason (.modPath id (.handOverAll h))) fun _ => h

theorem takeStrobe {k : Nat} (h : NoNewReference s t) : NoNewReference s (t.takeStrobe l k) := by
  unfold State.takeStrobe
  split
  · exact h
  · refine .ite (fun _ => .raise h) fun _ => ?_
    dsimp only
    split
    · exact .afterOutcome (.judgeFall (.addReason (.modPath id (.skipTo (.enterSpraying h)))))
    · exact .ite (fun _ => .afterOutcome (.judgeFall (.modPath id (.handOver (.skipTo (.enterSpraying h))))))
        fun _ => .startSegment (.judgeFall (.skipTo (.enterSpraying h)))

theorem serveStart (h : NoNewReference s t) : NoNewReference s (t.serveStart l) := by
  unfold State.serveStart
  split
  · exact h
  · dsimp only
    split
    · exact .ite (fun _ => .takeStrobe (.modStation h)) fun _ => h
    · exact .ite (fun _ => .takeStrobe (.modStation h)) fun _ => h
    · exact .raise (.modStation h)

theorem serveEnd (h : NoNewReference s t) : NoNewReference s (t.serveEnd l) := by
  unfold State.serveEnd
  split
  · exact h
  · refine .ite (fun _ => ?_) fun _ => .modStation h
    split
    · exact .serveStart (.enterClosing (.modStation h))
    · exact .serveStart (.enterClosing (.modStation h))
    · exact .modStation h

theorem dropPhase (h : NoNewReference s t) : NoNewReference s (t.dropPhase l) := .modPath id h

theorem gapExpired (h : NoNewReference s t) : NoNewReference s (t.gapExpired l) := by
  unfold State.gapExpired
  dsimp only
  split
  · exact .sprayEnd (.addReason (.modPath id (.handOverAll (.modPath id h))))
  · exact .modPath id h

/-! ### The Mask Checker (R88 to R95, R112) -/

theorem pathCheck (h : NoNewReference s t) : NoNewReference s (t.pathCheck l b) :=
  .ite (fun _ => .laneHold (.addReason h)) fun _ => .modPath id (.setLaneState (.modRecord h))

theorem ruling (h : NoNewReference s t) : NoNewReference s (t.ruling l) := by
  unfold State.ruling
  split
  · exact h
  · exact .ite (fun _ => .laneHold (.modRecord h)) fun _ => .pathCheck h

theorem discardReadings (h : NoNewReference s t) : NoNewReference s (t.discardReadings l) := by
  unfold State.discardReadings
  exact .modChecker (.modStation h)

theorem endCheck (h : NoNewReference s t) : NoNewReference s (t.endCheck l) :=
  .ite (fun _ => .ruling (.modChecker (.discardReadings h))) fun _ => .modChecker (.discardReadings h)

theorem takeReading (h : NoNewReference s t) : NoNewReference s (t.takeReading l) := by
  unfold State.takeReading
  split
  · refine .ite (fun _ => ?_) fun _ => h
    dsimp only
    split
    · exact .endCheck (.modChecker (.modStation h))
    · exact .modChecker (.modChecker (.modStation h))
    · exact .ite (fun _ => .raise (.modRecord (.modChecker (.modStation h))))
        fun _ => .modRecord (.modChecker (.modStation h))
  · exact h

theorem serveInspect (h : NoNewReference s t) : NoNewReference s (t.serveInspect l) :=
  .ite (fun _ => .takeReading h) fun _ => .discardReadings h

theorem paceExpired (h : NoNewReference s t) : NoNewReference s (t.paceExpired l) :=
  .ite (fun _ => .takeReading (.modChecker h)) fun _ => .modChecker h

/-! ### The Station Ports (R75 to R82) -/

theorem addBoardReason {r : Reason} (h : NoNewReference s t) : NoNewReference s (t.addBoardReason l r) := by
  unfold State.addBoardReason
  split
  · exact h
  · exact .addReason h

theorem loseRecord {slot : StationSlot} (h : NoNewReference s t) : NoNewReference s (t.loseRecord l slot n) := by
  cases slot with
  | startSlot => exact .ite (fun _ => .addBoardReason (.modStation h)) fun _ => .modStation h
  | endSlot => exact .modStation (f := fun st => st.countLoss .endSlot) h
  | inspectSlot => exact .ite (fun _ => .addBoardReason (.modStation h)) fun _ => .modStation h
  | boardSlot => exact .raise (.modStation h)

theorem serveBoard (h : NoNewReference s t) : NoNewReference s (t.serveBoard l) := by
  unfold State.serveBoard
  split
  · exact .ite (fun _ => .enterIdle (.modCtl (.modStation h))) fun _ => .modStation h
  · exact .serveArrived h
  · exact h

theorem enterSlot {slot : StationSlot} {d : List Byte} (h : NoNewReference s t) :
    NoNewReference s (t.enterSlot l slot d) := by
  cases slot with
  | startSlot => exact .ite (fun _ => .loseRecord h) fun _ => .serveStart (.modStation h)
  | endSlot => exact .ite (fun _ => .loseRecord h) fun _ => .serveEnd (.modStation h)
  | inspectSlot => exact .ite (fun _ => .loseRecord h) fun _ => .serveInspect (.modStation h)
  | boardSlot => exact .ite (fun _ => .loseRecord h) fun _ => .serveBoard (.modStation h)

theorem stationByte {slot : StationSlot} {c : Byte} (h : NoNewReference s t) : NoNewReference s (t.stationByte l slot c) :=
  .ite (fun _ => .enterSlot (.modStation h)) fun _ => .modStation h

/-! ### Lane commands (R59, R60, R66, R68, R71) -/

theorem disableLane (h : NoNewReference s t) : NoNewReference s (t.disableLane l) := by
  unfold State.disableLane
  split
  · exact h
  · exact .serveArrived (.modCtl h)
  · exact .modCtl h

theorem clearLane (h : NoNewReference s t) : NoNewReference s (t.clearLane l) := .modLane (fun _ => rfl) (.setGate h)

theorem abortBoard (h : NoNewReference s t) : NoNewReference s (t.abortBoard l b) :=
  .ite (fun _ => .grantHold (.addReason h)) fun _ => .overflow h

theorem resetLane (h : NoNewReference s t) : NoNewReference s (t.resetLane l) := by
  cases hb : t.board l with
  | none =>
    by_cases hg : t.gate.grant = some (.lane l)
    · simpa [State.resetLane, hg, hb] using NoNewReference.reevaluate (.setGate (.clearLane h))
    · simpa [State.resetLane, hg, hb] using NoNewReference.clearLane h
  | some b =>
    by_cases hg : t.gate.grant = some (.lane l)
    · simpa [State.resetLane, hg, hb] using NoNewReference.reevaluate (.abortBoard (.setGate (.clearLane h)))
    · simpa [State.resetLane, hg, hb] using NoNewReference.abortBoard (NoNewReference.clearLane h)

theorem configureLane {c : LaneSettings} (h : NoNewReference s t) : NoNewReference s (t.configureLane l c) :=
  .ite (fun _ => .raise (.modCtl h)) fun _ => .modCtl h

theorem ejectExpired (h : NoNewReference s t) : NoNewReference s (t.ejectExpired l) :=
  .ite (fun _ => .raise (.setLaneState (.modCtl h))) fun _ => .modCtl h

/-- R18: LINE_RESET leaves no reference at all. -/
theorem resetLine (s : State) : NoNewReference s s.resetLine := ⟨rfl, fun _ => rfl, fun l _ => by cases l <;> rfl⟩

end NoNewReference

end Sys2Proof.Machine
end

section
/-!
Recipes in use, continued: the commands that write the Recipe Store or make a reference to a slot check each other, so
every step but POWER_ON keeps the content of a slot in use and every clear free of references (O21).
-/

namespace Sys2Proof.Machine

open Sys2Proof

/-! ### The relation over a step -/

/-- From a state where a clear meets no reference, the same holds afterwards, and no slot in use has changed. -/
structure RecipesGuarded (s t : State) : Prop where
  keeps : s.ClearingFindsNoReference →
    t.ClearingFindsNoReference ∧ ∀ i : Fin 8, s.slotInUse i = true → t.store.slots[i] = s.store.slots[i]

section Guarded

variable {s t : State}

theorem NoNewReference.guarded (h : NoNewReference s t) : RecipesGuarded s t := by
  refine ⟨fun hs => ⟨fun hc => ?_, fun i _ => by rw [h.store]⟩⟩
  obtain ⟨hr, h0, h1⟩ := hs (by rwa [← h.store])
  exact ⟨h.records hr, h.paths .lane0 h0, h.paths .lane1 h1⟩

/-- R32, R35: outside CLEARING a reference may be made. -/
theorem guarded_of_not_clearing (hc : ¬ s.clearing = true) (hst : t.store = s.store) : RecipesGuarded s t := by
  refine ⟨fun _ => ⟨fun ht => absurd ?_ hc, fun i _ => by rw [hst]⟩⟩
  rwa [hst] at ht

/-- R33: a slot that is not in use may be written. -/
theorem setRecipe_guarded {i : Fin 8} (r : RecipeSlot) (hi : ¬ s.slotInUse i = true) : RecipesGuarded s (s.setRecipe i r) := by
  refine ⟨fun hs => ⟨hs, fun j hj => ?_⟩⟩
  have hne : i ≠ j := by
    rintro rfl
    exact hi hj
  simp [State.setRecipe, Vector.getElem_set_ne, Fin.val_ne_of_ne hne]

theorem setAliases_guarded (as : List (Nat × Fin 8)) : RecipesGuarded s (s.setAliases as) :=
  ⟨fun hs => ⟨hs, fun _ _ => rfl⟩⟩

/-- R34: without a record and with both paths EMPTY no slot is in use. -/
theorem slotInUse_of_no_reference (hr : s.records = []) (h0 : s.lane0.path.state = .empty)
    (h1 : s.lane1.path.state = .empty) (i : Fin 8) : s.slotInUse i = false := by
  simp [State.slotInUse, State.recordsNaming, State.pathsNaming, pathNames, hr, h0, h1]

/-- R36: the end of a clear, which has met no reference. -/
theorem clearTimerExpiry_guarded (h : exec .clearTimerExpiry s = .next t) : RecipesGuarded s t := by
  simp only [exec, execClearTimerExpiry] at h
  split at h
  · rename_i hdue
    cases h
    refine ⟨fun hs => ?_⟩
    have hc : s.store.clearTimer.isSome = true := by
      cases ht : s.store.clearTimer with
      | none => simp [ht, timerDue] at hdue
      | some x => rfl
    obtain ⟨hr, h0, h1⟩ := hs hc
    exact ⟨nofun, fun i hi => by simp [slotInUse_of_no_reference hr h0 h1 i] at hi⟩
  · cases h
    exact (NoNewReference.refl s).guarded

end Guarded

/-! ### Answers -/

/-- An answer whose state guards the recipes. -/
def Answer.Guards (a : Answer) (s : State) : Prop := RecipesGuarded s a.st

namespace Answer.Guards

variable {s t : State}

theorem refuse {e : Status} : (refuse e s).Guards s := (NoNewReference.refl s).guarded

theorem done {e : Status} {d : List Byte} (h : NoNewReference s t) : (Answer.mk e d t).Guards s := h.guarded

theorem accept {d : List Byte} (h : NoNewReference s t) : (accept d t).Guards s := h.guarded

theorem ite {c : Prop} [Decidable c] {a b : Answer} (h : c → a.Guards s) (g : ¬c → b.Guards s) :
    (if c then a else b).Guards s := by
  split
  · exact h ‹_›
  · exact g ‹_›

theorem orRefuse {c : Prop} [Decidable c] {e : Status} {b : Answer} (g : ¬c → b.Guards s) :
    (if c then Machine.refuse e s else b).Guards s := .ite (fun _ => .refuse) g

end Answer.Guards

section Answers

variable (s : State) (p : Port) (d : List Byte)

/-! ### The Recipe Store's commands (chapter 02) -/

theorem writeRecipeAnswer_guards : (writeRecipeAnswer p d s).Guards s := by
  refine .orRefuse fun _ => .orRefuse fun _ => ?_
  split
  · exact .refuse
  · refine .orRefuse fun _ => .orRefuse fun _ => ?_
    split
    · exact .refuse
    · split
      · exact .refuse
      · exact .orRefuse fun _ => .orRefuse fun huse => setRecipe_guarded _ huse

theorem writeFeatureMapAnswer_guards : (writeFeatureMapAnswer p d s).Guards s := by
  refine .orRefuse fun _ => .orRefuse fun _ => ?_
  split
  · exact .refuse
  · refine .orRefuse fun _ => ?_
    split
    · exact .refuse
    · exact .orRefuse fun _ => .orRefuse fun huse => setRecipe_guarded _ huse

theorem readRecipeAnswer_guards : (readRecipeAnswer p d s).Guards s := by
  refine .orRefuse fun _ => .orRefuse fun _ => ?_
  dsimp only
  split
  · exact .refuse
  · refine .orRefuse fun _ => .orRefuse fun _ => .ite (fun _ => .accept (.refl s)) fun _ =>
      .ite (fun _ => .accept (.refl s)) fun _ => ?_
    split
    · exact .refuse
    · exact .accept (.refl s)

theorem bindAliasAnswer_guards : (bindAliasAnswer p d s).Guards s := by
  refine .orRefuse fun _ => .orRefuse fun _ => ?_
  dsimp only
  split
  · exact .refuse
  · refine .orRefuse fun _ => .orRefuse fun _ => ?_
    split
    · exact setAliases_guarded _
    · exact .ite (fun _ => setAliases_guarded _) fun _ => .refuse

theorem unbindAliasAnswer_guards : (unbindAliasAnswer p d s).Guards s := by
  refine .orRefuse fun _ => .orRefuse fun _ => .orRefuse fun _ => .orRefuse fun _ => ?_
  split
  · exact .refuse
  · exact setAliases_guarded _

/-- R34: a clear starts only without references. -/
theorem clearRecipesAnswer_guards : (clearRecipesAnswer p d s).Guards s := by
  refine .orRefuse fun _ => .orRefuse fun _ => .orRefuse fun _ => .orRefuse fun href => ?_
  have hnone : s.records = [] ∧ s.lane0.path.state = .empty ∧ s.lane1.path.state = .empty := by simpa using href
  exact ⟨fun _ => ⟨fun _ => hnone, fun _ _ => rfl⟩⟩

/-! ### The commands that make a reference (R33) -/

theorem announceAnswer_guards : (announceAnswer p d s).Guards s := by
  refine .orRefuse fun _ => .orRefuse fun _ => ?_
  split
  · exact .refuse
  · refine .orRefuse fun _ => .orRefuse fun hclear => .orRefuse fun _ => .orRefuse fun _ => ?_
    split
    · exact .refuse
    · exact .orRefuse fun _ => .orRefuse fun _ => .orRefuse fun _ =>
        guarded_of_not_clearing hclear (modCtl_store ..)

theorem pathBeginAnswer_guards : (pathBeginAnswer p d s).Guards s := by
  refine .orRefuse fun _ => .orRefuse fun _ => ?_
  split
  · exact .refuse
  · refine .orRefuse fun _ => .orRefuse fun hclear => .orRefuse fun _ => ?_
    split
    · exact .refuse
    · refine .ite (fun _ => ?_) fun _ => guarded_of_not_clearing hclear (modPath_store ..)
      split
      · exact .refuse
      · exact .ite (fun _ => guarded_of_not_clearing hclear (modPath_store ..))
          fun _ => .done (.laneHold (.addReason (.refl s)))

/-! ### The other commands -/

theorem identifyAnswer_guards : (identifyAnswer d s).Guards s := .orRefuse fun _ => .accept (.refl s)

theorem getStatusAnswer_guards : (getStatusAnswer d s).Guards s := .orRefuse fun _ => .accept (.refl s)

theorem getEventsAnswer_guards : (getEventsAnswer p d s).Guards s := by
  refine .orRefuse fun _ => .ite (fun _ => .accept (.refl s)) fun _ => ?_
  split
  · exact .refuse
  · exact .accept (.refl s)

theorem ackEventsAnswer_guards : (ackEventsAnswer p d s).Guards s := by
  refine .orRefuse fun _ => ?_
  split
  · exact .refuse
  · exact .accept (.modPort (.refl s))

theorem setNoticeMaskAnswer_guards : (setNoticeMaskAnswer p d s).Guards s := by
  refine .orRefuse fun _ => ?_
  split
  · exact .refuse
  · exact .accept (.modPort (.refl s))

theorem setLineConfigAnswer_guards : (setLineConfigAnswer p d s).Guards s := by
  refine .orRefuse fun _ => .orRefuse fun _ => ?_
  split
  · exact .refuse
  · exact .orRefuse fun _ => .accept (.reevaluate (.judgeZones (.setSettings (.refl s))))

theorem lineResetAnswer_guards : (lineResetAnswer p d s).Guards s :=
  .orRefuse fun _ => .orRefuse fun _ => .accept (.resetLine s)

theorem withdrawAnswer_guards : (withdrawAnswer p d s).Guards s := by
  refine .orRefuse fun _ => .orRefuse fun _ => .orRefuse fun _ => ?_
  split
  · exact .refuse
  · exact .ite (fun _ => .accept (.removeRecord (.leaveQueue (.refl s)))) fun _ => .refuse

theorem getBoardAnswer_guards : (getBoardAnswer d s).Guards s := by
  refine .orRefuse fun _ => .orRefuse fun _ => ?_
  split
  · exact .refuse
  · exact .accept (.refl s)

theorem laneEnableAnswer_guards : (laneEnableAnswer p d s).Guards s := by
  refine .orRefuse fun _ => .orRefuse fun _ => ?_
  split
  · exact .refuse
  · exact .orRefuse fun _ => .accept (.ite (fun _ => .enterIdle (.refl s)) fun _ => .modCtl (.refl s))

theorem laneDisableAnswer_guards : (laneDisableAnswer d s).Guards s := by
  refine .orRefuse fun _ => ?_
  split
  · exact .refuse
  · exact .accept (.disableLane (.refl s))

theorem laneResetAnswer_guards : (laneResetAnswer p d s).Guards s := by
  refine .orRefuse fun _ => .orRefuse fun _ => ?_
  split
  · exact .refuse
  · exact .accept (.resetLane (.refl s))

theorem setLaneConfigAnswer_guards : (setLaneConfigAnswer p d s).Guards s := by
  refine .orRefuse fun _ => .orRefuse fun _ => ?_
  split
  · exact .refuse
  · exact .orRefuse fun _ => .orRefuse fun _ => .accept (.configureLane (.refl s))

theorem clearNozzleAnswer_guards : (clearNozzleAnswer p d s).Guards s := by
  refine .orRefuse fun _ => .orRefuse fun _ => ?_
  split
  · exact .refuse
  · exact .ite (fun _ => .accept (.modMeter (.modCtl (.refl s)))) fun _ => .refuse

theorem segmentsAnswer_guards : (segmentsAnswer p d s).Guards s := by
  refine .orRefuse fun _ => .orRefuse fun _ => ?_
  split
  · exact .refuse
  · refine .orRefuse fun _ => ?_
    split
    · exact .refuse
    · exact .orRefuse fun _ => .done (.modPath id (.refl s))

/-- R107: only an OPEN path becomes COMPLETE. -/
theorem pathEndAnswer_guards : (pathEndAnswer p d s).Guards s := by
  refine .orRefuse fun _ => .orRefuse fun _ => ?_
  split
  · exact .refuse
  · rename_i l _
    refine .orRefuse fun hopen => ?_
    have hcomplete (n : Nat) : NoNewReference s (s.modPath l fun pe => { pe with state := .complete, last := some n }) :=
      .modPath (fun he => absurd (.inl (by rw [he]; exact nofun)) hopen) (.refl s)
    exact .accept (.ite (fun _ => .sprayEnd (hcomplete _)) fun _ => hcomplete _)

theorem pathKeepAnswer_guards : (pathKeepAnswer p d s).Guards s := by
  refine .orRefuse fun _ => .orRefuse fun _ => ?_
  split
  · exact .orRefuse fun _ => .accept (.modPath id (.refl s))
  · exact .refuse

theorem pathDiscardAnswer_guards : (pathDiscardAnswer p d s).Guards s := by
  refine .orRefuse fun _ => .orRefuse fun _ => ?_
  split
  · exact .refuse
  · exact .orRefuse fun _ => .accept (.modPath (fun _ => rfl) (.refl s))

theorem ovenAcceptAnswer_guards : (ovenAcceptAnswer p d s).Guards s := by
  refine .orRefuse fun _ => .orRefuse fun _ => ?_
  split
  · exact .refuse
  · exact .orRefuse fun _ => .accept (.ite (fun _ => .reevaluate (.setGate (.refl s))) fun _ => .setGate (.refl s))

theorem setOvenLayoutAnswer_guards : (setOvenLayoutAnswer p d s).Guards s :=
  .orRefuse fun _ => .orRefuse fun _ => .orRefuse fun _ => .orRefuse fun _ => .orRefuse fun _ => .orRefuse fun _ =>
    .accept (.judgeZones (.setOven (.refl s)))

theorem listHoldsAnswer_guards : (listHoldsAnswer d s).Guards s := .orRefuse fun _ => .accept (.refl s)

theorem resprayAnswer_guards (b : BoardRecord) (l : LaneId) (areas : List (Fin 12)) :
    (resprayAnswer b l areas s).Guards s :=
  .orRefuse fun _ => .orRefuse fun _ => .orRefuse fun _ => .orRefuse fun _ => .accept (.disposeRespray (.refl s))

theorem disposeAnswer_guards : (disposeAnswer p d s).Guards s := by
  refine .orRefuse fun _ => ?_
  split
  · exact .refuse
  · dsimp only
    split
    · exact .refuse
    · refine .orRefuse fun _ => ?_
      split
      · exact .refuse
      · split
        · exact .accept (.disposeOut (.refl s))
        · exact .accept (.disposeOut (.refl s))
        · exact resprayAnswer_guards ..
        · exact .orRefuse fun _ => .accept (.disposeRecure (.refl s))

end Answers

theorem commandAnswer_guards (p : Port) (f : Frame) (s : State) : (commandAnswer p f s).Guards s := by
  unfold commandAnswer
  split
  case h_1 => exact identifyAnswer_guards ..
  case h_2 => exact getStatusAnswer_guards ..
  case h_3 => exact getEventsAnswer_guards ..
  case h_4 => exact ackEventsAnswer_guards ..
  case h_5 => exact setNoticeMaskAnswer_guards ..
  case h_6 => exact getBoardAnswer_guards ..
  case h_7 => exact listHoldsAnswer_guards ..
  case h_8 => exact setLineConfigAnswer_guards ..
  case h_9 => exact setLaneConfigAnswer_guards ..
  case h_10 => exact setOvenLayoutAnswer_guards ..
  case h_11 => exact ovenAcceptAnswer_guards ..
  case h_12 => exact writeRecipeAnswer_guards ..
  case h_13 => exact readRecipeAnswer_guards ..
  case h_14 => exact bindAliasAnswer_guards ..
  case h_15 => exact unbindAliasAnswer_guards ..
  case h_16 => exact writeFeatureMapAnswer_guards ..
  case h_17 => exact clearRecipesAnswer_guards ..
  case h_18 => exact laneEnableAnswer_guards ..
  case h_19 => exact laneDisableAnswer_guards ..
  case h_20 => exact laneResetAnswer_guards ..
  case h_21 => exact lineResetAnswer_guards ..
  case h_22 => exact clearNozzleAnswer_guards ..
  case h_23 => exact announceAnswer_guards ..
  case h_24 => exact withdrawAnswer_guards ..
  case h_25 => exact pathBeginAnswer_guards ..
  case h_26 => exact segmentsAnswer_guards ..
  case h_27 => exact pathEndAnswer_guards ..
  case h_28 => exact pathKeepAnswer_guards ..
  case h_29 => exact pathDiscardAnswer_guards ..
  case h_30 => exact disposeAnswer_guards ..
  case h_31 => exact .refuse

@[simp] theorem taken_slotInUse (s : State) (p : Port) (rest : List Frame) (i : Fin 8) :
    (s.taken p rest).slotInUse i = s.slotInUse i := by cases p <;> rfl

theorem taken_clearingFindsNoReference {s : State} (p : Port) (rest : List Frame) (h : s.ClearingFindsNoReference) :
    (s.taken p rest).ClearingFindsNoReference := by cases p <;> exact h

theorem answered_clearingFindsNoReference {s : State} (p : Port) (n : Nat) (r : TxFrame)
    (h : s.ClearingFindsNoReference) : (s.answered p n r).ClearingFindsNoReference := by cases p <;> exact h

/-- Taking a command guards the recipes when its answer does. -/
theorem takeCommand_guarded (p : Port) (f : Frame) (body : State → Answer) (s : State)
    (hbody : ∀ u, (body u).Guards u) : RecipesGuarded s (takeCommand p f body s) := by
  cases ht : takeable p f s with
  | false =>
    rw [takeCommand_of_not_takeable p f body s ht]
    exact (NoNewReference.refl s).guarded
  | true =>
    obtain ⟨rest, hready⟩ := (takeable_iff_ready p f s).1 ht
    rw [takeCommand_of_ready p f rest body s hready]
    refine ⟨fun hs => ?_⟩
    obtain ⟨hclear, hslots⟩ := (hbody _).keeps (taken_clearingFindsNoReference p rest hs)
    refine ⟨answered_clearingFindsNoReference _ _ _ hclear, fun i hi => ?_⟩
    simpa using hslots i (by simpa using hi)

/-! ### The part's own occurrences -/

/-- What an occurrence that is no command does to the recipes and their references: nothing, wherever it leads. -/
def NextNoNewReference (s : State) (o : Host.Outcome State Fault Refusal) : Prop := ∀ t, o = .next t → NoNewReference s t

namespace NextNoNewReference

variable {s t : State}

theorem next (h : NoNewReference s t) : NextNoNewReference s (.next t) := fun _ he => by
  cases he
  exact h

theorem same : NextNoNewReference s (.next s) := .next (.refl s)

theorem whenDue {c : Prop} [Decidable c] (h : NoNewReference s t) :
    NextNoNewReference s (if c then .next t else .next s) := by
  split
  · exact .next h
  · exact .same

end NextNoNewReference

theorem execFlashReadyExpiry_noNewReference (src : Source) (s : State) :
    NextNoNewReference s (execFlashReadyExpiry src s) := by
  unfold execFlashReadyExpiry
  split
  · exact .same
  · exact .whenDue (.flashReady (.refl s))

theorem execLaneDeadlineExpiry_noNewReference (l : LaneId) (s : State) :
    NextNoNewReference s (execLaneDeadlineExpiry l s) := by
  unfold execLaneDeadlineExpiry
  split
  · exact .same
  · exact .whenDue (.laneHold (.addReason (.setGate (.refl s))))

theorem execReturnDeadlineExpiry_noNewReference (s : State) : NextNoNewReference s (execReturnDeadlineExpiry s) := by
  unfold execReturnDeadlineExpiry
  split
  · exact .same
  · exact .whenDue (.stationFails (.refl s))

theorem execReturnPresenceChange_noNewReference (level : Bool) (s : State) :
    NextNoNewReference s (execReturnPresenceChange level s) := by
  unfold execReturnPresenceChange
  split
  · exact .same
  · exact .next (.presenceChange (.refl s))

theorem execOvenEntryEvent_noNewReference (s : State) : NextNoNewReference s (execOvenEntryEvent s) := by
  unfold execOvenEntryEvent
  split
  · exact .next (.raise (.refl s))
  · refine .next (.reevaluate (.freeSource ?_))
    split
    · exact .enterOven (.endGrant (.refl s))
    · exact .endGrant (.refl s)

theorem execTransferTimerExpiry_noNewReference (s : State) : NextNoNewReference s (execTransferTimerExpiry s) := by
  unfold execTransferTimerExpiry
  split
  · split
    · exact .next (.endGrant (.refl s))
    · exact .next (.reevaluate (.transferFails (.refl s)))
  · exact .same

theorem execEncoderPulse_noNewReference (s : State) : NextNoNewReference s (execEncoderPulse s) := by
  unfold execEncoderPulse
  split
  · exact .same
  · dsimp only
    split
    · exact .next (.reevaluate (.setOven (.refl s)))
    · exact .next (.setOven (.refl s))

theorem execOvenExitEvent_noNewReference (s : State) : NextNoNewReference s (execOvenExitEvent s) := by
  unfold execOvenExitEvent
  split
  · exact .next (.raise (.refl s))
  · split
    · exact .next (.raise (.refl s))
    · exact .next (.reevaluate (.popHead (.refl s)))

theorem execEscalationDeadlineExpiry_noNewReference (n : Serial) (s : State) :
    NextNoNewReference s (execEscalationDeadlineExpiry n s) := by
  unfold execEscalationDeadlineExpiry
  split
  · exact .whenDue (.escalate (.refl s))
  · exact .same

theorem execOpenDelayEnd_noNewReference (l : LaneId) (s : State) : NextNoNewReference s (execOpenDelayEnd l s) := by
  unfold execOpenDelayEnd
  split
  · split
    · exact .next (.serveStart (.endOpenDelay (.refl s)))
    · exact .next (.dropPhase (.refl s))
  · exact .same

theorem execOpenEnd_noNewReference (l : LaneId) (s : State) : NextNoNewReference s (execOpenEnd l s) := by
  unfold execOpenEnd
  split
  · split
    · exact .next (.serveStart (.enterClosing (.refl s)))
    · exact .next (.dropPhase (.refl s))
  · exact .same

/-! ### Rows and steps -/

/-- Every row but POWER_ON guards the recipes: a command by its answer, the clear timer by R36, the others because they
neither write the store nor make a reference. -/
theorem exec_guarded (i : Instr) {s t : State} (hi : i ≠ .powerOn) (h : exec i s = .next t) : RecipesGuarded s t := by
  cases hf : frameOf i with
  | some pf =>
    obtain ⟨p, f⟩ := pf
    rcases exec_of_frameOf hf s with he | ⟨he, -⟩
    · rw [he] at h
      cases h
      exact takeCommand_guarded p f _ s (commandAnswer_guards p f)
    · rw [he] at h
      cases h
      exact (NoNewReference.refl s).guarded
  | none =>
    have quiet {o : Host.Outcome State Fault Refusal} (hk : NextNoNewReference s o) (h : o = .next t) :
        RecipesGuarded s t := (hk t h).guarded
    cases i
    case powerOn => exact absurd rfl hi
    case clearTimerExpiry => exact clearTimerExpiry_guarded h
    case frameReceived => exact quiet (.next (.modPort (.refl s))) h
    case frameByteReceived => exact quiet (.next (.modPort (.refl s))) h
    case frameSent => exact quiet (.next (.modPort (.refl s))) h
    case frameGapExpiry => exact quiet (.whenDue (.modPort (.refl s))) h
    case slotAddressChange => exact quiet (.next (.modStation (.refl s))) h
    case stationGapExpiry => exact quiet (.whenDue (.loseRecord (.modStation (.refl s)))) h
    case startStrobe => exact quiet (.next (.stationByte (.refl s))) h
    case endStrobe => exact quiet (.next (.stationByte (.refl s))) h
    case inspectReading => exact quiet (.next (.stationByte (.refl s))) h
    case arrived => exact quiet (.next (.stationByte (.refl s))) h
    case cleared => exact quiet (.next (.stationByte (.refl s))) h
    case stationByteWritten => exact quiet (.next (.stationByte (.refl s))) h
    case paceTimerExpiry => exact quiet (.whenDue (.paceExpired (.refl s))) h
    case checkTimerExpiry => exact quiet (.whenDue (.endCheck (.refl s))) h
    case ejectTimerExpiry => exact quiet (.whenDue (.ejectExpired (.refl s))) h
    case openDelayEnd l => exact quiet (execOpenDelayEnd_noNewReference l s) h
    case openEnd l => exact quiet (execOpenEnd_noNewReference l s) h
    case closingEnd => exact quiet (.whenDue (.serveStart (.finishSegment (.refl s)))) h
    case segmentGapExpiry => exact quiet (.whenDue (.gapExpired (.refl s))) h
    case flowPulse => exact quiet (.next (.flowPulse (.refl s))) h
    case flashReadyExpiry src => exact quiet (execFlashReadyExpiry_noNewReference src s) h
    case laneDeadlineExpiry l => exact quiet (execLaneDeadlineExpiry_noNewReference l s) h
    case returnDeadlineExpiry => exact quiet (execReturnDeadlineExpiry_noNewReference s) h
    case returnPresenceChange level => exact quiet (execReturnPresenceChange_noNewReference level s) h
    case ovenEntryEvent => exact quiet (execOvenEntryEvent_noNewReference s) h
    case transferTimerExpiry => exact quiet (execTransferTimerExpiry_noNewReference s) h
    case encoderPulse => exact quiet (execEncoderPulse_noNewReference s) h
    case ovenSensorRecord => exact quiet (.next (.sensorByte (.refl s))) h
    case ovenSensorByteReceived => exact quiet (.next (.sensorByte (.refl s))) h
    case ovenSensorGapExpiry => exact quiet (.whenDue (.sensorWaiting (.refl s))) h
    case zoneStaleExpiry => exact quiet (.whenDue (.makeStale (.refl s))) h
    case doseTick => exact quiet (.whenDue (.doseAll (.restartDose (.refl s)))) h
    case ovenExitEvent => exact quiet (execOvenExitEvent_noNewReference s) h
    case escalationDeadlineExpiry n => exact quiet (execEscalationDeadlineExpiry_noNewReference n s) h
    case sprayEndTimeOld => exact quiet (.whenDue (.modRecord (.refl s))) h
    all_goals cases hf

theorem tick_noNewReference (s : State) : NoNewReference s s.tick := ⟨rfl, id, fun l => by cases l <;> exact id⟩

theorem mem_whenDue {c : Bool} {i j : Instr} : j ∈ whenDue c i ↔ c = true ∧ j = i := by
  cases c <;> simp [whenDue]

theorem powerOn_not_mem_dueWaiting {s : State} {src : Source} {i : Instr} (hi : .powerOn ≠ i) :
    .powerOn ∉ s.dueWaiting src i := by
  unfold State.dueWaiting
  split <;> simp [mem_whenDue, hi]

/-- No expiry that falls due is the power-on reset. -/
theorem powerOn_not_mem_dueExpiries (s : State) : .powerOn ∉ s.dueExpiries := by
  simp [State.dueExpiries, State.duePort, State.dueLane, State.dueGate, State.dueOven, State.dueHolds, State.dueRecords,
    mem_whenDue, powerOn_not_mem_dueWaiting]

theorem powerOn_not_mem_portCommand (s : State) (p : Port) : .powerOn ∉ s.portCommand p := by
  unfold State.portCommand
  split
  · simp
  · rename_i f _ _
    intro h
    have hframe := frameOf_commandOf p f
    rw [← (mem_whenDue.1 h).2] at hframe
    cases hframe

/-- Of itself the part never powers on. -/
theorem ownCommand_ne_powerOn (s : State) : s.ownCommand ≠ some .powerOn := by
  intro h
  have hmem := List.mem_of_mem_head? h
  simp [powerOn_not_mem_dueExpiries, powerOn_not_mem_portCommand] at hmem

theorem step_guarded {s t : State} (hp : s.pending.head? ≠ some .powerOn) (h : step s = .next t) : RecipesGuarded s t := by
  unfold step at h
  split at h
  · rename_i i rest hq
    exact ⟨(exec_guarded i (by rintro rfl; simp [hq] at hp) h).keeps⟩
  · split at h
    · rename_i i hown
      exact exec_guarded i (by rintro rfl; exact ownCommand_ne_powerOn s hown) h
    · cases h
      exact (tick_noNewReference s).guarded

end Sys2Proof.Machine

/-- Settles O21: a slot is written only while nothing names it (R33), a reference is made only outside CLEARING (R35), and
a clear starts only without one (R34). -/
theorem Sys2Proof.recipeInUseNeverChanges : Obligations.RecipeInUseNeverChanges :=
  fun _ _ hs hp h => (Machine.step_guarded hp h).keeps hs
end

section
/-!
Payloads spelt and read back: the bytes of lanes, slots, counts and lists of fields (table 1.4), and the parts of a state
that taking a frame leaves as they were.
-/

namespace Sys2Proof.Machine

open Sys2Proof

/-! ### Fields of one byte -/

theorem toByte_toNat {n : Nat} (h : n < 256) : (toByte n).toNat = n := by
  rw [toByte, BitVec.toNat_ofNat, Nat.mod_eq_of_lt h]

theorem finOf_toByte {n : Nat} (i : Fin n) (hn : n ≤ 256) : finOf n (toByte i.val) = some i := by
  have hval : (toByte i.val).toNat = i.val := toByte_toNat (by omega)
  simp [finOf, hval]

theorem finOf_of_lt {n : Nat} {b : Byte} (h : b.toNat < n) : finOf n b = some ⟨b.toNat, h⟩ := dif_pos h

@[simp] theorem laneOf_laneNumber (l : LaneId) : laneOf (toByte (laneNumber l)) = some l := by cases l <;> rfl

@[simp] theorem sectionOf_code (c : SectionCode) : sectionOf c.code = some c := by cases c <;> rfl

@[simp] theorem checkClassOf_code (c : CheckClass) : checkClassOf (toByte c.code) = some c := by cases c <;> rfl

/-! ### Fields of several bytes -/

theorem word16At_eq {n : Nat} (h : n < 65536) (d : List Byte) : word16At (bytes16 n ++ d) 0 = n := by
  rw [word16At_bytes16, Nat.mod_eq_of_lt h]

theorem word32At_eq {n : Nat} (h : n < 2 ^ 32) (d : List Byte) : word32At (bytes32 n ++ d) 0 = n := by
  rw [word32At_bytes32, Nat.mod_eq_of_lt h]

theorem word16At_eq_last {n : Nat} (h : n < 65536) : word16At (bytes16 n) 0 = n := word16At_eq h []

theorem byteAt_bytes16_skip (n : Nat) (d : List Byte) (i : Nat) : byteAt (bytes16 n ++ d) (i + 2) = byteAt d i := rfl

theorem word32At_bytes16_skip (n : Nat) (d : List Byte) (i : Nat) : word32At (bytes16 n ++ d) (i + 2) = word32At d i := rfl

theorem byteAt_append_left {d : List Byte} (e : List Byte) {j : Nat} (h : j < d.length) : byteAt (d ++ e) j = byteAt d j :=
  List.getD_append d e 0#8 j h

theorem byteAt_append_skip (d e : List Byte) (j : Nat) : byteAt (d ++ e) (d.length + j) = byteAt e j := by
  rw [byteAt, List.getD_append_right d e 0#8 _ (Nat.le_add_right ..), Nat.add_sub_cancel_left, byteAt]

/-- Fields of one width in a row: byte `j` of the `i`-th. -/
theorem byteAt_flatMap {α : Type} {f : α → List Byte} {w : Nat} (hw : ∀ a, (f a).length = w) {as : List α} {i j : Nat}
    (hi : i < as.length) (hj : j < w) : byteAt (as.flatMap f) (w * i + j) = byteAt (f as[i]) j := by
  induction as generalizing i with
  | nil => simp at hi
  | cons a rest ih =>
    rw [List.flatMap_cons]
    cases i with
    | zero => simpa using byteAt_append_left _ (by rwa [hw])
    | succ i =>
      have hskip : w * (i + 1) + j = (f a).length + (w * i + j) := by
        rw [hw]
        ring
      rw [hskip, byteAt_append_skip, ih (by simpa using hi)]
      rfl

/-- A 2-byte field of fields of one width in a row. -/
theorem word16At_flatMap {α : Type} {f : α → List Byte} {w : Nat} (hw : ∀ a, (f a).length = w) {as : List α} {i j : Nat}
    (hi : i < as.length) (hj : j + 1 < w) : word16At (as.flatMap f) (w * i + j) = word16At (f as[i]) j := by
  rw [word16At, byteAt_flatMap hw hi (by omega), Nat.add_assoc, byteAt_flatMap hw hi hj, word16At]

theorem length_flatMap_const {α β : Type} {f : α → List β} {w : Nat} (hw : ∀ a, (f a).length = w) (as : List α) :
    (as.flatMap f).length = w * as.length := by
  simp [List.length_flatMap, hw, Nat.mul_comm]

/-- Reading the items of a payload one by one gives the list they spell. -/
theorem mapM_range_eq {β : Type} {f : Nat → Option β} {bs : List β} (h : ∀ (i : Nat) (hi : i < bs.length), f i = some bs[i]) :
    (List.range bs.length).mapM f = some bs := by
  rw [mapM_some_iff, List.forall₂_iff_get]
  exact ⟨List.length_range, fun i _ hi => by simpa using h i hi⟩

/-- Where a list is read, each of its items is. -/
theorem isSome_of_mapM {α β : Type} {f : α → Option β} {as : List α} {bs : List β} (h : as.mapM f = some bs) {a : α}
    (ha : a ∈ as) : (f a).isSome = true := by
  rw [Option.isSome_iff_ne_none]
  intro hnone
  rw [mapM_none_iff.2 ⟨a, ha, hnone⟩] at h
  cases h

theorem bne_eq_decide_ne (m n : Nat) : (m != n) = decide (m ≠ n) := by
  by_cases h : m = n <;> simp [h]

/-! ### A state with a frame taken -/

@[simp] theorem taken_clearing (s : State) (p : Port) (rest : List Frame) : (s.taken p rest).clearing = s.clearing := by
  cases p <;> rfl

/-! ### The answer sent (R4 to R6) -/

/-- What an answer makes of a state `s` whose port `p` takes frame `f`: its effects, and the reply in its place. -/
def Answer.sent (a : Answer) (s : State) (p : Port) (f : Frame) : State :=
  a.st.answered p (s.txLength p) ⟨false, replyFrame f a.status a.data⟩

/-- A command that can be taken sends its answer. -/
theorem exec_sent {i : Instr} {p : Port} {f : Frame} {rest : List Frame} {body : State → Answer} {s : State}
    (hready : s.Ready p f rest) (hexec : exec i s = .next (takeCommand p f body s)) :
    exec i s = .next ((body (s.taken p rest)).sent s p f) := by
  rw [hexec, takeCommand_of_ready p f rest body s hready, Answer.sent]

theorem sent_ite (c : Prop) [Decidable c] (a b : Answer) (s : State) (p : Port) (f : Frame) :
    (if c then a else b).sent s p f = if c then a.sent s p f else b.sent s p f := by
  split <;> rfl

end Sys2Proof.Machine
end

section
/-!
Clearing the store, and the alias table (O20, O18).
-/

namespace Sys2Proof.Machine

open Sys2Proof

/-! ### Clearing (R34 to R36) -/

theorem clearRecipesAnswer_nil (s : State) :
    clearRecipesAnswer .line [] s =
      if s.clearing then refuse .busy s
      else if s.records ≠ [] ∨ s.lane0.path.state ≠ .empty ∨ s.lane1.path.state ≠ .empty then refuse .inUse s
      else accept [] { s with store := { s.store with clearTimer := some (after s.clock 250) } } := rfl

/-- R27, R36: the map of a cleared slot, entry by entry. -/
theorem clearedMap_eq : clearedMap = Vector.ofFn fun c : Fin 256 => if c.val = 255 then .endMark else .none := by
  refine Vector.ext fun c hc => ?_
  rw [Vector.getElem_ofFn]
  exact clearedMap_get ⟨c, hc⟩

theorem exec_clearTimerExpiry_due {s : State} {t : Time} (ht : s.store.clearTimer = some t)
    (hdue : reached s.clock t = true) :
    exec .clearTimerExpiry s = .next (raise .clearDone none 0 0 { s with store := RecipeStore.reset }) := by
  have htimer : timerDue s.clock s.store.clearTimer = true := by rw [ht]; exact hdue
  exact if_pos htimer

end Sys2Proof.Machine

open Sys2Proof Machine in
/-- Settles O20: the conditions of R34 in their order, and the store that R36 leaves. -/
theorem Sys2Proof.clearRecipesThenStoreIsEmpty : Obligations.ClearRecipesThenStoreIsEmpty := by
  refine ⟨fun s tag rest hready => ?_, fun s t ht hdue => ?_⟩
  · rw [exec_sent hready rfl, clearRecipesAnswer_nil, sent_ite, sent_ite]
    rfl
  · rw [exec_clearTimerExpiry_due ht hdue, RecipeStore.reset, RecipeSlot.cleared, clearedMap_eq]

namespace Sys2Proof.Machine

open Sys2Proof

/-! ### The alias table (R29 to R31) -/

/-- R29: in a table with each alias once, an entry is found by its alias. -/
theorem aliasSlot_of_mem {t : List (Nat × Fin 8)} {a : Nat} {i : Fin 8} (honce : (t.map (·.1)).Nodup)
    (h : (a, i) ∈ t) : aliasSlot t a = some i := by
  have hfind : t.find? (·.1 == a) = some (a, i) := by
    cases hf : t.find? (·.1 == a) with
    | none => exact absurd (List.find?_eq_none.1 hf _ h) (by simp)
    | some e =>
      have he : e.1 = a := by simpa using List.find?_some hf
      rw [List.inj_on_of_nodup_map honce (List.mem_of_find?_eq_some hf) h he]
  rw [aliasSlot, hfind]
  rfl

theorem aliasSlot_of_not_mem {t : List (Nat × Fin 8)} {a : Nat} (h : ∀ i, (a, i) ∉ t) : aliasSlot t a = none := by
  rw [aliasSlot, Option.map_eq_none_iff, List.find?_eq_none]
  rintro ⟨b, i⟩ hmem hb
  rw [beq_iff_eq] at hb
  subst hb
  exact h i hmem

/-- R30: BIND_ALIAS of an alias 1 to 65 535. -/
theorem bindAliasAnswer_payload {a : Nat} (h1 : 1 ≤ a) (h2 : a ≤ 65535) (s : State) (slot : Byte) :
    bindAliasAnswer .line (bytes16 a ++ [slot]) s =
      match finOf 8 slot with
      | none => refuse .badValue s
      | some i =>
        if s.clearing then refuse .busy s
        else
          match aliasSlot s.store.aliasTable a with
          | some old => accept [toByte old.val] (s.setAliases (repoint s.store.aliasTable a i))
          | none =>
            if s.store.aliasTable.length < 24 then accept [0xFF#8] (s.setAliases (s.store.aliasTable ++ [(a, i)]))
            else refuse .full s := by
  have halias : word16At (bytes16 a ++ [slot]) 0 = a := word16At_eq (by omega) _
  have hslot : byteAt (bytes16 a ++ [slot]) 2 = slot := rfl
  have hne : a ≠ 0 := by omega
  simp only [bindAliasAnswer, halias, hslot, hne, if_false]
  rfl

/-- R31: UNBIND_ALIAS of an alias 1 to 65 535. -/
theorem unbindAliasAnswer_payload {a : Nat} (h1 : 1 ≤ a) (h2 : a ≤ 65535) (s : State) :
    unbindAliasAnswer .line (bytes16 a) s =
      if s.clearing then refuse .busy s
      else
        match aliasSlot s.store.aliasTable a with
        | none => refuse .notFound s
        | some old => accept [toByte old.val] (s.setAliases (s.store.aliasTable.filter fun e => e.1 != a)) := by
  have halias : word16At (bytes16 a) 0 = a := (word16At_bytes16 a []).trans (Nat.mod_eq_of_lt (by omega))
  have hne : a ≠ 0 := by omega
  simp only [unbindAliasAnswer, halias, hne, if_false]
  rfl

section Aliases

variable {s : State} {a : Nat} {slot : Byte} {i old : Fin 8}

theorem bindAliasAnswer_present (h1 : 1 ≤ a) (h2 : a ≤ 65535) (hidle : s.clearing = false)
    (hold : aliasSlot s.store.aliasTable a = some old) :
    bindAliasAnswer .line (bytes16 a ++ [toByte i.val]) s =
      accept [toByte old.val] (s.setAliases (repoint s.store.aliasTable a i)) := by
  simp [bindAliasAnswer_payload h1 h2, finOf_toByte, hidle, hold]

theorem bindAliasAnswer_absent (h1 : 1 ≤ a) (h2 : a ≤ 65535) (hidle : s.clearing = false)
    (hnone : aliasSlot s.store.aliasTable a = none) :
    bindAliasAnswer .line (bytes16 a ++ [toByte i.val]) s =
      if s.store.aliasTable.length < 24 then accept [0xFF#8] (s.setAliases (s.store.aliasTable ++ [(a, i)]))
      else refuse .full s := by
  simp [bindAliasAnswer_payload h1 h2, finOf_toByte, hidle, hnone]

theorem bindAliasAnswer_noSlot (h1 : 1 ≤ a) (h2 : a ≤ 65535) (hslot : 7 < slot.toNat) :
    bindAliasAnswer .line (bytes16 a ++ [slot]) s = refuse .badValue s := by
  simp [bindAliasAnswer_payload h1 h2, finOf_none hslot]

theorem bindAliasAnswer_busy (h1 : 1 ≤ a) (h2 : a ≤ 65535) (hclear : s.clearing = true) (hslot : slot.toNat ≤ 7) :
    bindAliasAnswer .line (bytes16 a ++ [slot]) s = refuse .busy s := by
  simp [bindAliasAnswer_payload h1 h2, finOf_of_lt (Nat.lt_succ_of_le hslot), hclear]

theorem unbindAliasAnswer_present (h1 : 1 ≤ a) (h2 : a ≤ 65535) (hidle : s.clearing = false)
    (hold : aliasSlot s.store.aliasTable a = some old) :
    unbindAliasAnswer .line (bytes16 a) s =
      accept [toByte old.val] (s.setAliases (s.store.aliasTable.filter fun e => decide (e.1 ≠ a))) := by
  have hkeep : (fun e : Nat × Fin 8 => e.1 != a) = fun e => decide (e.1 ≠ a) := funext fun e => bne_eq_decide_ne e.1 a
  simp [unbindAliasAnswer_payload h1 h2, hidle, hold, hkeep]

theorem unbindAliasAnswer_absent (h1 : 1 ≤ a) (h2 : a ≤ 65535) (hidle : s.clearing = false)
    (hnone : aliasSlot s.store.aliasTable a = none) :
    unbindAliasAnswer .line (bytes16 a) s = refuse .notFound s := by
  simp [unbindAliasAnswer_payload h1 h2, hidle, hnone]

theorem unbindAliasAnswer_busy (h1 : 1 ≤ a) (h2 : a ≤ 65535) (hclear : s.clearing = true) :
    unbindAliasAnswer .line (bytes16 a) s = refuse .busy s := by
  simp [unbindAliasAnswer_payload h1 h2, hclear]

end Aliases

end Sys2Proof.Machine

open Sys2Proof Machine in
/-- Settles O18: an alias is in the table exactly where it is found, and the commands change its one entry. -/
theorem Sys2Proof.aliasCommandsKeepTheTable : Obligations.AliasCommandsKeepTheTable := by
  have idle {s : State} (rest : List Frame) (h : s.store.clearTimer = none) : (s.taken .line rest).clearing = false := by
    simp [State.clearing, h]
  have busy {s : State} (rest : List Frame) (h : s.store.clearTimer.isSome = true) :
      (s.taken .line rest).clearing = true := by
    simp [State.clearing, h]
  refine ⟨?bind, ?unbind, ?refusals⟩
  case bind =>
    intro s tag rest a i h1 h2 hclear honce payload hready
    refine ⟨fun old hold => ?_, fun habsent => ?_⟩
    · rw [exec_sent hready rfl, bindAliasAnswer_present h1 h2 (idle rest hclear)
        (by rw [taken_store]; exact aliasSlot_of_mem honce hold)]
      rfl
    · rw [exec_sent hready rfl, bindAliasAnswer_absent h1 h2 (idle rest hclear)
        (by rw [taken_store]; exact aliasSlot_of_not_mem habsent), sent_ite, taken_store]
      split <;> rfl
  case unbind =>
    intro s tag rest a h1 h2 hclear honce hready
    refine ⟨fun old hold => ?_, fun habsent => ?_⟩
    · rw [exec_sent hready rfl, unbindAliasAnswer_present h1 h2 (idle rest hclear)
        (by rw [taken_store]; exact aliasSlot_of_mem honce hold)]
      rfl
    · rw [exec_sent hready rfl, unbindAliasAnswer_absent h1 h2 (idle rest hclear)
        (by rw [taken_store]; exact aliasSlot_of_not_mem habsent)]
      rfl
  case refusals =>
    intro s tag slot rest a h1 h2
    refine ⟨fun hready => ⟨fun _ hslot => ?_, fun hclear hslot => ?_⟩, fun hready hclear => ?_⟩
    · rw [exec_sent hready rfl, bindAliasAnswer_noSlot h1 h2 hslot]
      rfl
    · rw [exec_sent hready rfl, bindAliasAnswer_busy h1 h2 (busy rest hclear) hslot]
      rfl
    · rw [exec_sent hready rfl, unbindAliasAnswer_busy h1 h2 (busy rest hclear)]
      rfl
end

section
/-!
ANNOUNCE, WITHDRAW and PATH_BEGIN, each with its conditions in their order (O22, O35).
-/

namespace Sys2Proof.Machine

open Sys2Proof

/-! ### Aliases and records found -/

/-- R32: resolving an alias, by the entry that is found for it. -/
theorem resolve_eq (s : State) (a : Nat) :
    s.resolve a = match s.store.aliasTable.find? fun e => decide (e.1 = a) with
      | none => .error .notFound
      | some e => if (s.store.slots[e.2]).state = .ready then .ok e.2 else .error .wrongState := by
  have hfind : aliasSlot s.store.aliasTable a = (s.store.aliasTable.find? fun e => decide (e.1 = a)).map (·.2) := rfl
  rw [State.resolve, hfind]
  cases s.store.aliasTable.find? fun e => decide (e.1 = a) <;> rfl

theorem record?_eq (s : State) (n : Serial) : s.record? n = s.records.find? fun b => decide (b.serial = n) := rfl

theorem record?_isSome_iff (s : State) (n : Serial) : (s.record? n).isSome = true ↔ ∃ b ∈ s.records, b.serial = n := by
  simp [State.record?]

/-! ### ANNOUNCE (R47, R48) and WITHDRAW (R50) -/

theorem announceAnswer_payload {n a : Nat} (l : LaneId) (hn : 1 ≤ n) (hn2 : n < 2 ^ 32) (ha : 1 ≤ a) (ha2 : a ≤ 65535)
    (s : State) :
    announceAnswer .line (toByte (laneNumber l) :: (bytes32 n ++ bytes16 a)) s =
      if s.clearing then refuse .busy s
      else if (s.record? n).isSome then refuse .inUse s
      else if 32 ≤ s.records.length then refuse .full s
      else match s.resolve a with
        | .error e => refuse e s
        | .ok i =>
          if (s.lane l).ctl.state = .off then refuse .wrongState s
          else if (s.lane l).ctl.serviceDue then refuse .service s
          else if 4 ≤ (s.lane l).ctl.queue.length then refuse .full s
          else
            accept [toByte i.val, toByte ((s.lane l).ctl.queue.length + 1)]
              ({ s with records := s.records ++ [newRecord n i l (s.recipe i).areasD.length] }.joinQueue l ⟨n, false⟩) := by
  have hserial : word32At (toByte (laneNumber l) :: (bytes32 n ++ bytes16 a)) 1 = n :=
    word32At_eq hn2 (bytes16 a)
  have halias : word16At (toByte (laneNumber l) :: (bytes32 n ++ bytes16 a)) 5 = a :=
    (word16At_bytes16 a []).trans (Nat.mod_eq_of_lt (by omega))
  have hne : ¬ (n = 0 ∨ a = 0) := by omega
  simp only [announceAnswer, byteAt_zero, laneOf_laneNumber, hserial, halias, hne, if_false]
  rfl

theorem withdrawAnswer_payload {n : Nat} (hn : 1 ≤ n) (hn2 : n < 2 ^ 32) (s : State) :
    withdrawAnswer .line (bytes32 n) s =
      match s.record? n with
      | none => refuse .notFound s
      | some b =>
        if b.stage = .announced ∧ b.location = .announceQueue then
          accept [toByte (laneNumber b.lane)] ((s.leaveQueue b.lane n).removeRecord n)
        else refuse .wrongState s := by
  have hserial : word32At (bytes32 n) 0 = n := (word32At_bytes32 n []).trans (Nat.mod_eq_of_lt hn2)
  have hne : n ≠ 0 := by omega
  simp only [withdrawAnswer, hserial, hne, if_false]
  rfl

theorem leaveQueue_removeRecord (s : State) (l : LaneId) (n : Serial) :
    (s.leaveQueue l n).removeRecord n =
      { s with records := s.records.filter fun r => decide (r.serial ≠ n) }.modCtl l fun c =>
        { c with queue := c.queue.filter fun e => decide (e.serial ≠ n) } := by
  simp only [State.leaveQueue, State.removeRecord, bne_eq_decide_ne]
  cases l <;> rfl

end Sys2Proof.Machine

open Sys2Proof Machine in
/-- Settles O22: the fields are read back, and the conditions are those of R47 and R50 in their order. -/
theorem Sys2Proof.announceAndWithdrawABoard : Obligations.AnnounceAndWithdrawABoard := by
  refine ⟨fun s tag rest l n a hn hn2 ha ha2 => ?announce, fun s tag rest n hn hn2 hready => ?withdraw⟩
  case announce =>
    intro payload hready
    rw [exec_sent hready rfl, announceAnswer_payload l hn hn2 ha ha2, resolve_eq]
    simp only [sent_ite, taken_clearing, taken_record?, taken_records, taken_store, taken_lane, record?_isSome_iff]
    cases s.store.aliasTable.find? fun e => decide (e.1 = a) with
    | none => rfl
    | some e =>
      dsimp only
      by_cases hfull : (s.store.slots[e.2]).state = .ready
      · simp only [hfull, if_true, sent_ite, ne_eq, not_true_eq_false, if_false]
        rfl
      · simp only [hfull, if_false, ne_eq, not_false_eq_true, if_true]
        rfl
  case withdraw =>
    rw [exec_sent hready rfl, withdrawAnswer_payload hn hn2, taken_record?, record?_eq]
    cases s.records.find? fun b => decide (b.serial = n) with
    | none => rfl
    | some b =>
      simp only [sent_ite, leaveQueue_removeRecord]
      rfl

namespace Sys2Proof.Machine

open Sys2Proof

/-! ### PATH_BEGIN (R104, R105) -/

theorem pathBeginAnswer_payload {a : Nat} (l : LaneId) (ha : 1 ≤ a) (ha2 : a ≤ 65535) (s : State) :
    pathBeginAnswer .line (toByte (laneNumber l) :: bytes16 a) s =
      if s.clearing then refuse .busy s
      else if (s.lane l).path.state ≠ .empty then refuse .wrongState s
      else match s.resolve a with
        | .error e => refuse e s
        | .ok i =>
          if (s.lane l).ctl.state = .armed ∨ (s.lane l).ctl.state = .spraying then
            match s.board l with
            | none => refuse .wrongState s
            | some b =>
              if b.slot = i then
                accept [toByte i.val] (s.modPath l fun pe =>
                  { pe with state := .opened, slot := some i, keep := false, queue := [], last := none })
              else refuse .wrongState ((s.addReason b.serial .pathMismatch).laneHold l b.serial)
          else
            accept [toByte i.val] (s.modPath l fun pe =>
              { pe with
                state := .opened, slot := some i, keep := false, queue := [], last := none, cursor := 1 }) := by
  have halias : word16At (toByte (laneNumber l) :: bytes16 a) 1 = a :=
    (word16At_bytes16 a []).trans (Nat.mod_eq_of_lt (by omega))
  have hne : a ≠ 0 := by omega
  simp only [pathBeginAnswer, byteAt_zero, laneOf_laneNumber, halias, hne, if_false]
  rfl

/-- R104: a path opened with its cursor left alone, as a change of the cursor to what it is. -/
theorem modPath_opened_cursor (s : State) (l : LaneId) (i : Fin 8) :
    (s.modPath l fun pe => { pe with state := .opened, slot := some i, keep := false, queue := [], last := none }) =
      s.modPath l fun pe => { pe with
        state := .opened, slot := some i, keep := false, queue := [], last := none, cursor := (s.lane l).path.cursor } := by
  cases l <;> rfl

end Sys2Proof.Machine

open Sys2Proof Machine in
/-- Settles O35: the fields are read back, and the conditions are those of R104 and R105 in their order. -/
theorem Sys2Proof.pathBeginOpensThePath : Obligations.PathBeginOpensThePath := by
  intro s tag rest l a ha ha2 payload hready
  rw [exec_sent hready rfl, pathBeginAnswer_payload l ha ha2, resolve_eq]
  simp only [sent_ite, taken_clearing, taken_store, taken_lane, taken_board]
  cases s.store.aliasTable.find? fun e => decide (e.1 = a) with
  | none => rfl
  | some e =>
    dsimp only
    by_cases hslot : (s.store.slots[e.2]).state = .ready
    · simp only [hslot, if_true, sent_ite, ne_eq, not_true_eq_false, if_false]
      cases s.board l with
      | none => rfl
      | some b =>
        simp only [sent_ite, modPath_opened_cursor, taken_lane]
        rfl
    · simp only [hslot, if_false, ne_eq, not_false_eq_true, if_true]
      rfl
end

section
/-!
The recipe sections written and read (O16, O17).
-/

namespace Sys2Proof.Machine

open Sys2Proof

/-! ### The sections read back from their bytes (R20 to R23) -/

section Sections

variable {src r : RecipeSlot} {slot code : Byte} {fields : List Byte}

/-- R20: MATERIAL as it is sent is MATERIAL as it is read. -/
theorem parseMaterial_fields (h : src.sectionBytes .material = some fields) (hr : SectionCode.material.InRange src) :
    parseMaterial (slot :: code :: fields) = src.material := by
  obtain ⟨m, hm, rfl⟩ := Option.map_eq_some_iff.1 h
  have hrange := hr m hm
  simp (disch := omega) only [parseMaterial, List.append_assoc, word16At_succ, byteAt_succ, word16At_bytes16_skip,
    byteAt_bytes16_skip, byteAt_zero, word16At_eq, toByte_toNat, hm]
  exact if_pos hrange

/-- R21: the bytes of an area. -/
def AreaSpec.bytes (x : AreaSpec) : List Byte := bytes16 x.area ++ bytes16 x.filmMin ++ bytes16 x.filmMax

theorem AreaSpec.bytes_length (x : AreaSpec) : x.bytes.length = 6 := rfl

theorem parseArea_fields {as : List AreaSpec} {count : Byte} {i : Nat} (hi : i < as.length)
    (hr : 1 ≤ as[i].area ∧ as[i].area ≤ 65535 ∧ 1 ≤ as[i].filmMin ∧ as[i].filmMin ≤ as[i].filmMax ∧ as[i].filmMax ≤ 65535) :
    parseArea (slot :: code :: count :: as.flatMap AreaSpec.bytes) i = some as[i] := by
  have hword {j : Nat} (hj : j + 1 < 6) :
      word16At (slot :: code :: count :: as.flatMap AreaSpec.bytes) (3 + j + 6 * i) = word16At as[i].bytes j := by
    rw [show 3 + j + 6 * i = 6 * i + j + 1 + 1 + 1 by ring, word16At_succ, word16At_succ, word16At_succ]
    exact word16At_flatMap AreaSpec.bytes_length hi hj
  simp (disch := omega) only [parseArea, hword (j := 0), hword (j := 2), hword (j := 4), AreaSpec.bytes, List.append_assoc,
    word16At_bytes16_skip, word16At_eq, word16At_eq_last]
  exact if_pos (by omega)

/-- R21: AREAS as it is sent is AREAS as it is read, area by area. -/
theorem parseAreas_fields (h : src.sectionBytes .areas = some fields) (hr : SectionCode.areas.InRange src) :
    parseAreas (slot :: code :: fields) = src.areas := by
  obtain ⟨as, has, rfl⟩ := Option.map_eq_some_iff.1 h
  obtain ⟨_, hlen, hall⟩ := hr as has
  have hcount : (byteAt (slot :: code :: toByte as.length :: as.flatMap AreaSpec.bytes) 2).toNat = as.length :=
    toByte_toNat (by omega)
  refine Eq.trans ?_ has.symm
  show (List.range (byteAt (slot :: code :: toByte as.length :: as.flatMap AreaSpec.bytes) 2).toNat).mapM _ = _
  rw [hcount]
  exact mapM_range_eq fun i hi => parseArea_fields hi (hall as[i] (List.getElem_mem hi))

/-- R22: FEATURES as it is sent is FEATURES as it is read, class by class. -/
theorem parseFeatures_fields (h : src.sectionBytes .features = some fields) (hr : SectionCode.features.InRange src) :
    parseFeatures (slot :: code :: fields) = src.features := by
  obtain ⟨cs, hcs, rfl⟩ := Option.map_eq_some_iff.1 h
  have hlen := hr cs hcs
  rw [parseFeatures, byteAt_succ, byteAt_succ, byteAt_zero, toByte_toNat (by omega), hcs]
  refine mapM_range_eq fun i hi => ?_
  have hbyte : byteAt (slot :: code :: toByte cs.length :: cs.map fun x => toByte x.code) (3 + i) = toByte cs[i].code := by
    rw [Nat.add_comm]
    simp [byteAt, hi]
  rw [hbyte, checkClassOf_code]

/-- R23: CURE as it is sent is CURE as it is read; its reference temperature is a signed field. -/
theorem parseCure_fields (h : src.sectionBytes .cure = some fields) (hr : SectionCode.cure.InRange src) :
    parseCure (slot :: code :: fields) = src.cure := by
  obtain ⟨x, hx, rfl⟩ := Option.map_eq_some_iff.1 h
  have hrange := hr x hx
  have htemp : ((x.refTemp % 65536).toNat : Int) = x.refTemp := by omega
  have hsmall : (x.refTemp % 65536).toNat < 32768 := by omega
  simp (disch := omega) only [parseCure, bytesInt16, int16At, List.append_assoc, word16At_succ, byteAt_succ,
    word16At_bytes16_skip, byteAt_bytes16_skip, List.cons_append, List.nil_append, byteAt_zero, word16At_eq,
    word16At_eq_last, toByte_toNat, hx, htemp, hsmall, if_true]
  exact if_pos hrange

/-- R23: TIMING as it is sent is TIMING as it is read. -/
theorem parseTiming_fields (h : src.sectionBytes .timing = some fields) (hr : SectionCode.timing.InRange src) :
    parseTiming (slot :: code :: fields) = src.timing := by
  obtain ⟨x, hx, rfl⟩ := Option.map_eq_some_iff.1 h
  have hrange := hr x hx
  have hpolicy : (if (if x.policy = .holdWet then 0#8 else 1#8) = 0#8 then HoldPolicy.holdWet else .holdAfterCure) =
      x.policy := by cases x.policy <;> rfl
  have hcode : (if x.policy = .holdWet then 0#8 else 1#8).toNat ≤ 1 := by cases x.policy <;> decide
  simp (disch := omega) only [parseTiming, List.append_assoc, List.cons_append, List.nil_append, word16At_succ,
    word32At_succ, byteAt_succ, word16At_bytes16_skip, word32At_bytes16_skip, byteAt_bytes16_skip, byteAt_bytes32_skip,
    word16At_bytes32_skip, byteAt_zero, word16At_eq, word32At_eq, toByte_toNat, hx, hpolicy]
  exact if_pos (by omega)

/-- Table 2.2: a section as it is sent has the count and the length of its layout. -/
theorem section_layout {c : SectionCode} (h : src.sectionBytes c = some fields) (hr : c.InRange src) :
    countByteOk c (slot :: code :: fields) = true ∧ fields.length = sectionLength c (slot :: code :: fields) := by
  cases c with
  | material =>
    obtain ⟨m, -, rfl⟩ := Option.map_eq_some_iff.1 h
    exact ⟨rfl, rfl⟩
  | areas =>
    obtain ⟨as, has, rfl⟩ := Option.map_eq_some_iff.1 h
    obtain ⟨hmin, hmax, -⟩ := hr as has
    have hlen : (as.flatMap AreaSpec.bytes).length = 6 * as.length := length_flatMap_const AreaSpec.bytes_length as
    simp only [countByteOk, sectionLength, byteAt_succ, byteAt_zero, toByte_toNat (show as.length < 256 by omega)]
    exact ⟨by simp [hmin, hmax], (congrArg (· + 1) hlen).trans (Nat.add_comm _ _)⟩
  | features =>
    obtain ⟨cs, hcs, rfl⟩ := Option.map_eq_some_iff.1 h
    have hmax := hr cs hcs
    simp only [countByteOk, sectionLength, byteAt_succ, byteAt_zero, toByte_toNat (show cs.length < 256 by omega)]
    exact ⟨by simp [hmax], by simp [Nat.add_comm]⟩
  | cure =>
    obtain ⟨x, -, rfl⟩ := Option.map_eq_some_iff.1 h
    exact ⟨rfl, rfl⟩
  | timing =>
    obtain ⟨x, -, rfl⟩ := Option.map_eq_some_iff.1 h
    exact ⟨rfl, rfl⟩

/-- R22: the map under check slots that another slot has. -/
theorem put_features_map : (SectionCode.features.put src r).map =
    if src.featuresD.length < r.featuresD.length then cutMap src.featuresD.length r.map else r.map := by
  refine if_congr Iff.rfl (Vector.ext fun i hi => ?_) rfl
  simp only [cutMap, Vector.getElem_ofFn]
  cases r.map[i] <;> rfl

theorem withFeatures_eq_put {cs : List CheckClass} (h : src.features = some cs) :
    r.withFeatures cs = SectionCode.features.put src r := by
  have hcount : src.featuresD = cs := by simp [RecipeSlot.featuresD, h]
  have hput : SectionCode.features.put src r =
      { r with features := src.features, map := (SectionCode.features.put src r).map } := rfl
  rw [hput, put_features_map, hcount, h, RecipeSlot.withFeatures]

/-- R24: writing a section as another slot has it. -/
theorem written_eq_put {c : SectionCode} (h : src.sectionBytes c = some fields) (hr : c.InRange src) :
    r.written c (slot :: code :: fields) = some (c.put src r) := by
  cases c with
  | material =>
    obtain ⟨m, hm, -⟩ := Option.map_eq_some_iff.1 h
    simp [RecipeSlot.written, SectionCode.put, parseMaterial_fields h hr, hm]
  | areas =>
    obtain ⟨as, has, -⟩ := Option.map_eq_some_iff.1 h
    simp [RecipeSlot.written, SectionCode.put, parseAreas_fields h hr, has]
  | features =>
    obtain ⟨cs, hcs, -⟩ := Option.map_eq_some_iff.1 h
    simp [RecipeSlot.written, parseFeatures_fields h hr, hcs, withFeatures_eq_put hcs]
  | cure =>
    obtain ⟨x, hx, -⟩ := Option.map_eq_some_iff.1 h
    simp [RecipeSlot.written, SectionCode.put, parseCure_fields h hr, hx]
  | timing =>
    obtain ⟨x, hx, -⟩ := Option.map_eq_some_iff.1 h
    simp [RecipeSlot.written, SectionCode.put, parseTiming_fields h hr, hx]

end Sections

/-! ### Sections out of their ranges -/

section OutOfRange

variable {d : List Byte}

theorem checkClassOf_isSome {b : Byte} (h : (checkClassOf b).isSome = true) : b.toNat ≤ 2 := by
  revert b
  decide

theorem code_of_sectionOf {b : Byte} {c : SectionCode} (h : sectionOf b = some c) : b = c.code := by
  cases c <;> revert b <;> decide

/-- R20 to R23: where a section is read, every field of it lies in its range. -/
theorem sectionBytesInRange_of_written {r r' : RecipeSlot} {c : SectionCode} (hc : sectionOf (byteAt d 1) = some c)
    (h : r.written c d = some r') : SectionBytesInRange d := by
  unfold SectionBytesInRange
  dsimp only
  rw [code_of_sectionOf hc]
  cases c with
  | material =>
    obtain ⟨m, hm, -⟩ := Option.map_eq_some_iff.1 h
    exact (Option.ite_none_right_eq_some.1 hm).1
  | areas =>
    obtain ⟨as, has, -⟩ := Option.map_eq_some_iff.1 h
    intro i hi
    obtain ⟨x, hx⟩ := Option.isSome_iff_exists.1 (isSome_of_mapM has (List.mem_range.2 hi))
    obtain ⟨harea, hmin, -, hle⟩ := (Option.ite_none_right_eq_some.1 hx).1
    exact ⟨harea, hmin, hle⟩
  | features =>
    obtain ⟨cs, hcs, -⟩ := Option.map_eq_some_iff.1 h
    exact fun i hi => checkClassOf_isSome (isSome_of_mapM hcs (List.mem_range.2 hi))
  | cure =>
    obtain ⟨x, hx, -⟩ := Option.map_eq_some_iff.1 h
    obtain ⟨hlow, hhigh, hrest⟩ := (Option.ite_none_right_eq_some.1 hx).1
    have hword := word16At_lt d 2
    simp only [int16At] at hlow hhigh
    exact ⟨by split at hlow <;> omega, by split at hlow <;> omega, hrest⟩
  | timing =>
    obtain ⟨x, hx, -⟩ := Option.map_eq_some_iff.1 h
    obtain ⟨h1, h2, h3, h4, h5, h6, h7, h8⟩ := (Option.ite_none_right_eq_some.1 hx).1
    exact ⟨h1, h2, h3, h4, h5, h6, h7, h8⟩

end OutOfRange

/-! ### WRITE_RECIPE (R24) -/

/-- R24: a section sent in its own layout with its fields in their ranges. -/
theorem writeRecipeAnswer_section {c : SectionCode} {src : RecipeSlot} {fields : List Byte} (i : Fin 8)
    (h : src.sectionBytes c = some fields) (hr : c.InRange src) (s : State) :
    writeRecipeAnswer .line (toByte i.val :: c.code :: fields) s =
      if s.clearing then refuse .busy s
      else if s.slotInUse i then refuse .inUse s
      else accept [toByte (c.put src (s.recipe i)).state.code] (s.setRecipe i (c.put src (s.recipe i)).edited) := by
  obtain ⟨hcount, hlen⟩ := section_layout (slot := toByte i.val) (code := c.code) h hr
  have hpos : 1 ≤ sectionLength c (toByte i.val :: c.code :: fields) := by cases c <;> simp [sectionLength]
  simp only [writeRecipeAnswer, byteAt_succ, byteAt_zero, sectionOf_code, hcount, finOf_toByte i (by decide),
    written_eq_put h hr, List.length_cons, hlen]
  rw [if_neg (by simp), if_neg (by omega), if_neg (by simp), if_neg (by omega)]

/-- R24: a slot above 7, or a section field out of its range. -/
theorem writeRecipeAnswer_badValue {d : List Byte} (hlen : lengthStep 0x20#8 d = none)
    (hbad : 7 < (byteAt d 0).toNat ∨ ¬ SectionBytesInRange d) (s : State) :
    writeRecipeAnswer .line d s = refuse .badValue s := by
  rw [lengthStep_writeRecipe] at hlen
  split_ifs at hlen with hshort
  cases hc : sectionOf (byteAt d 1) with
  | none => simp [hc] at hlen
  | some c =>
    simp only [hc] at hlen
    split_ifs at hlen with hcount hlayout
    rw [writeRecipeAnswer, if_neg (by simp), if_neg hshort, hc]
    dsimp only
    rw [if_neg (by simpa using hcount), if_neg (not_not.2 hlayout)]
    cases hi : finOf 8 (byteAt d 0) with
    | none => rfl
    | some i =>
      have hslot : ¬ 7 < (byteAt d 0).toNat := fun hbig => by simp [finOf_none hbig] at hi
      cases hw : (s.recipe i).written c d with
      | none => simp only [hw]
      | some r => exact absurd (sectionBytesInRange_of_written hc hw) (hbad.resolve_left hslot)

end Sys2Proof.Machine

open Sys2Proof Machine in
/-- Settles O16: a section is read back from its layout, and no section is read from fields out of their ranges. -/
theorem Sys2Proof.writeRecipeStoresSection : Obligations.WriteRecipeStoresSection := by
  refine ⟨fun s tag rest i c src fields h hr => ?_, fun s tag rest d hlen hbad hready => ?_⟩
  · intro payload hready
    rw [exec_sent hready rfl, writeRecipeAnswer_section i h hr]
    simp only [sent_ite, taken_clearing, taken_slotInUse, taken_recipe]
    rfl
  · rw [exec_sent hready rfl, writeRecipeAnswer_badValue hlen hbad]
    rfl
end

section
/-!
READ_RECIPE and WRITE_FEATURE_MAP (O17, O19).
-/

namespace Sys2Proof.Machine

open Sys2Proof

/-! ### READ_RECIPE (R25, R26) -/

section Read

variable {s : State}

theorem readRecipeAnswer_section (i : Fin 8) (c : SectionCode) (hidle : s.clearing = false) :
    readRecipeAnswer .line [toByte i.val, c.code] s =
      (((s.recipe i).sectionBytes c).map fun fields => accept fields s).getD (refuse .notFound s) := by
  have hcode : 1 ≤ c.code.toNat ∧ c.code.toNat ≤ 5 := by cases c <;> decide
  simp only [readRecipeAnswer, byteAt_succ, byteAt_zero, finOf_toByte i (by decide), sectionOf_code, Option.bind_some, hidle]
  rw [if_neg (by simp), if_neg (by simp), if_neg (by omega), if_neg (by simp), if_neg (by omega), if_neg (by omega)]
  cases (s.recipe i).sectionBytes c <;> rfl

theorem readRecipeAnswer_summary (i : Fin 8) (hidle : s.clearing = false) :
    readRecipeAnswer .line [toByte i.val, 6#8] s = accept (s.summaryBytes i) s := by
  simp [readRecipeAnswer, finOf_toByte, hidle]

theorem readRecipeAnswer_quarter (i : Fin 8) (q : Fin 4) (hidle : s.clearing = false) :
    readRecipeAnswer .line [toByte i.val, toByte (7 + q.val)] s = accept (mapQuarter (s.recipe i).map q.val) s := by
  have hcode : (toByte (7 + q.val)).toNat = 7 + q.val := toByte_toNat (by omega)
  simp only [readRecipeAnswer, byteAt_succ, byteAt_zero, finOf_toByte i (by decide), hcode, hidle]
  rw [if_neg (by simp), if_neg (by simp), if_neg (by omega), if_neg (by simp), if_neg (by omega), if_pos (by omega),
    Nat.add_sub_cancel_left]

theorem readRecipeAnswer_badValue {slot code : Byte} (h : 7 < slot.toNat ∨ code.toNat < 1 ∨ 10 < code.toNat) :
    readRecipeAnswer .line [slot, code] s = refuse .badValue s := by
  cases hi : finOf 8 slot with
  | none => simp [readRecipeAnswer, hi]
  | some i =>
    have hslot : ¬ 7 < slot.toNat := fun hbig => by simp [finOf_none hbig] at hi
    simp only [readRecipeAnswer, byteAt_succ, byteAt_zero, hi]
    rw [if_neg (by simp), if_neg (by simp)]
    exact if_pos (h.resolve_left hslot)

theorem readRecipeAnswer_busy {slot code : Byte} (hclear : s.clearing = true) (hslot : slot.toNat ≤ 7)
    (h1 : 1 ≤ code.toNat) (h2 : code.toNat ≤ 10) : readRecipeAnswer .line [slot, code] s = refuse .busy s := by
  simp only [readRecipeAnswer, byteAt_succ, byteAt_zero, finOf_of_lt (Nat.lt_succ_of_le hslot), hclear]
  rw [if_neg (by simp), if_neg (by simp)]
  exact (if_neg (by omega)).trans (if_pos trivial)

/-- R26: the paths that name a slot, counted as those lanes' paths that are not EMPTY and have it. -/
theorem pathsNaming_eq (s : State) (i : Fin 8) :
    s.pathsNaming i = ([s.lane0, s.lane1].filter fun x => x.path.state ≠ .empty && x.path.slot = some i).length := by
  have hnames (x : Lane) : pathNames i x.path = (decide (x.path.state ≠ .empty) && decide (x.path.slot = some i)) := by
    rw [Bool.eq_iff_iff]
    simp [pathNames]
  simp only [State.pathsNaming, hnames, List.filter_cons, List.filter_nil]
  split <;> split <;> rfl

theorem taken_summaryBytes (s : State) (p : Port) (rest : List Frame) (i : Fin 8) :
    (s.taken p rest).summaryBytes i = s.summaryBytes i := by cases p <;> rfl

/-- The codes of a quarter of the map, among all of them. -/
theorem quarter_eq_filter (q : Fin 4) :
    ((List.finRange 256).drop (64 * q.val)).take 64 = (List.finRange 256).filter fun c => c.val / 64 = q.val := by
  revert q
  decide

theorem flatMap_filter_eq {α β : Type} (p : α → Prop) [DecidablePred p] (f : α → List β) (as : List α) :
    (as.filter fun a => p a).flatMap f = as.flatMap fun a => if p a then f a else [] := by
  induction as with
  | nil => rfl
  | cons a rest ih => by_cases h : p a <;> simp [h, ih]

theorem MapEntry.bytes_length (e : MapEntry) : e.bytes.length = 2 := by cases e <;> rfl

theorem mapQuarter_codes (m : Vector MapEntry 256) (q : Nat) :
    mapQuarter m q = (((List.finRange 256).drop (64 * q)).take 64).flatMap fun c => m[c].bytes := by
  have hlist : m.toList = (List.finRange 256).map fun c => m[c] := by
    refine List.ext_getElem (by simp) fun i _ _ => ?_
    simp
  rw [mapQuarter, hlist, ← List.map_drop, ← List.map_take, List.flatMap_map]

/-- R26: a quarter of the map, code by code. -/
theorem mapQuarter_eq (m : Vector MapEntry 256) (q : Fin 4) :
    mapQuarter m q.val = (List.finRange 256).flatMap fun c => if c.val / 64 = q.val then m[c].bytes else [] := by
  rw [mapQuarter_codes, quarter_eq_filter, flatMap_filter_eq]

theorem mapQuarter_length (m : Vector MapEntry 256) (q : Fin 4) : (mapQuarter m q.val).length = 128 := by
  rw [mapQuarter_codes, length_flatMap_const fun c => MapEntry.bytes_length m[c], List.length_take, List.length_drop,
    List.length_finRange]
  omega

end Read

end Sys2Proof.Machine

open Sys2Proof Machine in
/-- Settles O17: every section code reads its own part of the slot, and the quarters of the map are those of its codes. -/
theorem Sys2Proof.readRecipeRepliesStore : Obligations.ReadRecipeRepliesStore := by
  refine ⟨fun s tag rest i hclear => ?replies, fun s tag slot code rest hready => ⟨fun _ hbad => ?_, fun hclear hslot h1 h2 => ?_⟩⟩
  case replies =>
    have hidle : (s.taken .line rest).clearing = false := by simp [State.clearing, hclear]
    refine ⟨fun c hready => ?_, fun hready => ⟨rfl, ?_⟩, fun q hready => ?_⟩
    · rw [exec_sent hready rfl, readRecipeAnswer_section i c hidle, taken_recipe, State.recipe]
      cases (s.store.slots[i]).sectionBytes c <;> rfl
    · rw [exec_sent hready rfl, readRecipeAnswer_summary i hidle, taken_summaryBytes, State.summaryBytes, pathsNaming_eq]
      rfl
    · intro fields
      have hfields : fields = 0#8 :: mapQuarter (s.store.slots[i]).map q.val := by
        rw [mapQuarter_eq]
        refine congrArg _ (List.flatMap_congr fun c _ => ?_)
        cases (s.store.slots[i]).map[c] <;> rfl
      refine ⟨by rw [hfields, List.length_cons, mapQuarter_length], ?_⟩
      rw [hfields, exec_sent hready rfl, readRecipeAnswer_quarter i q hidle]
      rfl
  · rw [exec_commandOf_refused (e := .badValue) hready nofun nofun (readRecipeAnswer_badValue hbad)]
    rfl
  · rw [exec_commandOf_refused (e := .busy) hready nofun nofun
      (readRecipeAnswer_busy (by simp [State.clearing, hclear]) hslot h1 h2)]
    rfl

namespace Sys2Proof.Machine

open Sys2Proof

/-! ### WRITE_FEATURE_MAP (R28) -/

section WriteMap

variable {s : State}

/-- R28: an entry the slot can take is read back from its bytes. -/
theorem parseMapEntry_bytes {count : Nat} {e : MapEntry} (hend : e ≠ .endMark)
    (hnamed : ∀ k f, e = .checkSlot k f → k.val < count) : parseMapEntry count (byteAt e.bytes 0) (byteAt e.bytes 1) = some e := by
  cases e with
  | none => rfl
  | endMark => exact absurd rfl hend
  | checkSlot k f =>
    have hff : ∀ k : Fin 16, toByte k.val ≠ 0xFF#8 := by decide
    simp [MapEntry.bytes, parseMapEntry, onOffOf_flagByte, hff, finOf_toByte, hnamed k f rfl]

theorem parseMapEntries_bytes {count : Nat} {es : List MapEntry} (slot first : Byte)
    (h : ∀ e ∈ es, e ≠ .endMark ∧ ∀ k f, e = .checkSlot k f → k.val < count) :
    parseMapEntries count (slot :: first :: es.flatMap MapEntry.bytes) = some es := by
  have hcount : ((slot :: first :: es.flatMap MapEntry.bytes).length - 2) / 2 = es.length := by
    simp [length_flatMap_const MapEntry.bytes_length]
  rw [parseMapEntries, hcount]
  refine mapM_range_eq fun i hi => ?_
  have hbyte {j : Nat} (hj : j < 2) :
      byteAt (slot :: first :: es.flatMap MapEntry.bytes) (2 + j + 2 * i) = byteAt es[i].bytes j := by
    rw [show 2 + j + 2 * i = 2 * i + j + 1 + 1 by ring, byteAt_succ, byteAt_succ, byteAt_flatMap MapEntry.bytes_length hi hj]
  obtain ⟨hend, hnamed⟩ := h es[i] (List.getElem_mem hi)
  rw [show byteAt (slot :: first :: es.flatMap MapEntry.bytes) (2 + 2 * i) = _ from hbyte (j := 0) (by omega),
    show byteAt (slot :: first :: es.flatMap MapEntry.bytes) (3 + 2 * i) = _ from hbyte (j := 1) (by omega)]
  exact parseMapEntry_bytes hend hnamed

/-- R28: an entry the slot cannot take. -/
theorem parseMapEntry_none {count : Nat} {d : List Byte} {j : Nat} (h : MapEntryFails count d j) :
    parseMapEntry count (byteAt d (2 + 2 * j)) (byteAt d (3 + 2 * j)) = none := by
  unfold MapEntryFails at h
  dsimp only at h
  generalize byteAt d (2 + 2 * j) = check at h ⊢
  generalize byteAt d (3 + 2 * j) = flag at h ⊢
  have hff {n : Nat} (hn : check.toNat = n) (hne : n ≠ 255) : check ≠ 0xFF#8 := by
    rintro rfl
    exact hne hn.symm
  rcases h with ⟨hlow, hne⟩ | hflag | ⟨hnone, hflag⟩ | ⟨hslot, hcount⟩
  · cases hf : onOffOf flag <;> simp [parseMapEntry, hf, hff rfl hne, finOf_none hlow]
  · simp [parseMapEntry, onOffOf_none hflag]
  · obtain rfl : check = 0xFF#8 := BitVec.eq_of_toNat_eq hnone
    obtain rfl : flag = 1#8 := BitVec.eq_of_toNat_eq hflag
    rfl
  · cases hf : onOffOf flag <;>
      simp [parseMapEntry, hf, hff rfl (by omega), finOf_of_lt (Nat.lt_succ_of_le hslot), hcount]

theorem writeFeatureMapAnswer_entries (i : Fin 8) {first : Nat} {es : List MapEntry} (h1 : 1 ≤ es.length)
    (h2 : es.length ≤ 99) (hlast : first + es.length ≤ 255)
    (hes : ∀ e ∈ es, e ≠ .endMark ∧ ∀ k f, e = .checkSlot k f → k.val < (s.recipe i).featuresD.length) :
    writeFeatureMapAnswer .line (toByte i.val :: toByte first :: es.flatMap MapEntry.bytes) s =
      if s.clearing then refuse .busy s
      else if s.slotInUse i then refuse .inUse s
      else accept [] (s.setRecipe i { s.recipe i with map := writeRun (s.recipe i).map first es }.edited) := by
  have hlen : (toByte i.val :: toByte first :: es.flatMap MapEntry.bytes).length = 2 + 2 * es.length := by
    simp only [List.length_cons, length_flatMap_const MapEntry.bytes_length]
    omega
  simp only [writeFeatureMapAnswer, hlen, byteAt_succ, byteAt_zero, finOf_toByte i (by decide),
    toByte_toNat (show first < 256 by omega), parseMapEntries_bytes _ _ hes]
  rw [if_neg (by simp), if_neg (by omega), if_neg (by omega)]

theorem writeFeatureMapAnswer_badValue {d : List Byte} (hlen : lengthStep 0x24#8 d = none)
    (hbad : 7 < (byteAt d 0).toNat ∨ 254 < (byteAt d 1).toNat + (d.length - 2) / 2 - 1 ∨
      ∃ i : Fin 8, (byteAt d 0).toNat = i.val ∧
        ∃ j < (d.length - 2) / 2, MapEntryFails (s.recipe i).featuresD.length d j) :
    writeFeatureMapAnswer .line d s = refuse .badValue s := by
  have hcheck := length_of_check hlen
  simp only [Bool.and_eq_true, decide_eq_true_eq, and_assoc] at hcheck
  rw [writeFeatureMapAnswer, if_neg (by simp), if_neg (not_not.2 hcheck)]
  cases hi : finOf 8 (byteAt d 0) with
  | none => rfl
  | some i =>
    have hslot : ¬ 7 < (byteAt d 0).toNat := fun hbig => by simp [finOf_none hbig] at hi
    have hval : (byteAt d 0).toNat = i.val := by
      rw [finOf_of_lt (by omega)] at hi
      cases hi
      rfl
    dsimp only
    split
    · rfl
    · rename_i hlast
      obtain ⟨k, hk, j, hj, hfail⟩ := (hbad.resolve_left hslot).resolve_left hlast
      obtain rfl : k = i := Fin.ext (hk.symm.trans hval)
      rw [parseMapEntries, mapM_none_iff.2 ⟨j, List.mem_range.2 hj, parseMapEntry_none hfail⟩]

/-- R28: a run written to a map, code by code. -/
theorem writeRun_eq (m : Vector MapEntry 256) (first : Nat) (es : List MapEntry) :
    writeRun m first es = Vector.ofFn fun c : Fin 256 =>
      if first ≤ c.val ∧ c.val < first + es.length then es.getD (c.val - first) .none else m[c] := by
  refine congrArg Vector.ofFn (funext fun c => ?_)
  by_cases hlow : c.val < first
  · rw [if_pos hlow, if_neg (by omega)]
  · rw [if_neg hlow]
    by_cases hhigh : c.val < first + es.length
    · rw [if_pos (by omega), List.getD_eq_getElem _ _ (by omega), List.getD_eq_getElem _ _ (by omega)]
    · rw [if_neg (by omega), List.getD_eq_default _ _ (by omega)]

end WriteMap

end Sys2Proof.Machine

open Sys2Proof Machine in
/-- Settles O19: the entries are read back from their bytes, and the run is written code by code. -/
theorem Sys2Proof.writeFeatureMapReplacesRun : Obligations.WriteFeatureMapReplacesRun := by
  refine ⟨fun s tag rest i first es h1 h2 hlast hes => ?_, fun s tag rest d hlen => ?_⟩
  · intro payload hready
    rw [exec_sent hready rfl, writeFeatureMapAnswer_entries i h1 h2 hlast (by simpa [State.recipe] using hes), writeRun_eq]
    simp only [sent_ite, taken_clearing, taken_slotInUse, taken_recipe]
    rfl
  · intro k hbad hready
    rw [exec_sent hready rfl, writeFeatureMapAnswer_badValue hlen (by simpa [State.recipe] using hbad)]
    rfl
end

section
/-!
The reset state meets the invariants (O59).
-/

namespace Sys2Proof.Machine

open Sys2Proof

theorem reset_lane_within (l : LaneId) : (State.reset.lane l).Within := by
  rw [reset_lane]
  exact ⟨Nat.zero_le _, rfl, Nat.zero_le _, Nat.zero_le _, ⟨Nat.zero_le _, Nat.zero_le _, Nat.zero_le _, Nat.zero_le _⟩,
    Nat.zero_le _, Nat.zero_le _, Nat.zero_le _, Nat.zero_le _, Nat.zero_le _⟩

theorem reset_within : State.reset.Within := by
  refine (State.within_iff _).2 ⟨recordsWithin_nil, Nat.zero_le _, ⟨Nat.zero_le _, nofun, nofun, .nil, fun z => ?_⟩, rfl⟩
  simp [State.reset, Oven.reset, Zone.reset]

/-- R101: a path after power-on is EMPTY, with nothing loaded. -/
theorem reset_path_numbered : PathExec.reset.Numbered := ⟨by decide, fun _ => ⟨rfl, rfl⟩, rfl, rfl⟩

/-- R73, R86, R101: after power-on every lane is OFF and nothing runs in it. -/
theorem reset_laneSound (l : LaneId) : State.reset.LaneSound l := by
  have hexit : State.reset.gate.exit l = none := by cases l <;> rfl
  constructor
  case exit => simp [hexit, reset_lane, Lane.reset, LaneCtl.reset]
  case grant => exact ⟨nofun, fun h => by simp [reset_lane, Lane.reset, LaneCtl.reset] at h⟩
  all_goals rw [reset_lane]
  case path => exact reset_path_numbered
  case running => exact fun h => absurd rfl h
  case readings => exact fun h => absurd rfl h
  case rest => exact fun _ => ⟨rfl, rfl⟩
  case report => exact nofun
  case ends => rfl
  all_goals decide

theorem reset_no_record (b : BoardRecord) : b ∉ State.reset.records := List.not_mem_nil

theorem reset_not_at (n : Serial) (x : Location) : ¬ State.reset.At n x := fun ⟨b, hb, _⟩ => reset_no_record b hb

theorem reset_no_board (l : LaneId) : State.reset.board l = none := rfl

/-- R56: without a record, an entry or a waiting board, every board is in its place. -/
theorem reset_placed : State.reset.Placed := by
  constructor
  case distinct => exact List.nodup_nil
  case lanes => exact reset_laneSound
  case queued => exact fun b hb => (reset_no_record b hb).elim
  case queueKnown =>
    intro l e he
    rw [reset_lane] at he
    exact absurd he List.not_mem_nil
  case board =>
    intro l
    rw [reset_lane]
    exact ⟨nofun, fun ⟨b, hb, _⟩ => (reset_no_record b hb).elim⟩
  case single => exact fun l b hb => (reset_no_record b hb).elim
  case exits => exact fun l w h => by cases l <;> cases h
  case station => exact fun n => ⟨fun h => (reset_not_at n _ h).elim, nofun⟩
  case oven => exact fun n => ⟨fun h => (reset_not_at n _ h).elim, fun ⟨_, he, _⟩ => absurd he List.not_mem_nil⟩
  case ovenOnce => exact List.nodup_nil
  case hold => exact fun n => ⟨fun h => (reset_not_at n _ h).elim, fun ⟨_, he, _⟩ => absurd he List.not_mem_nil⟩
  case holdOnce => exact List.nodup_nil
  case held => exact fun b hb => (reset_no_record b hb).elim
  case returning => exact nofun

end Sys2Proof.Machine

open Sys2Proof Machine in
/-- Settles O59, block by block: every table and queue is empty, and nothing runs. -/
theorem Sys2Proof.resetStateIsSound : Obligations.ResetStateIsSound :=
  ⟨fun p => by rw [reset_port]; exact port_reset_sound, store_reset_sound, reset_lane_within, reset_within,
    nofun,
    fun l b seg hb => absurd hb (by simp [reset_no_board]), reset_placed⟩
end

section
/-!
Where the boards are, seen apart from everything else the state holds: the roster. The records on one side, the queues,
lane states, gate, oven and hold table on the other, and what it means that the two agree.
-/

namespace Sys2Proof.Machine

open Sys2Proof

/-! ### The roster of a state -/

/-- What a record says of where its board is (R40, R41). -/
structure Place where
  lane : LaneId
  location : Location
  held : Bool

/-- The place a record gives its board. -/
def BoardRecord.place (b : BoardRecord) : Place := ⟨b.lane, b.location, decide (b.stage = .held)⟩

/-- The records' places by serial. -/
abbrev Places := Serial → Option Place

/-- Board `n` is at location `x`. -/
def Places.At (ps : Places) (n : Serial) (x : Location) : Prop := ∃ q, ps n = some q ∧ q.location = x

/-- Board `n` is announced to lane `l` and waits in a queue. -/
def Places.Queued (ps : Places) (n : Serial) (l : LaneId) : Prop :=
  ∃ q, ps n = some q ∧ q.location = .announceQueue ∧ q.lane = l

/-- The places the records give, and the structures that keep the boards of each location, by their serials. -/
structure Roster where
  places : Places
  queue : LaneId → List Serial
  state : LaneId → LaneState
  exit : LaneId → Option Serial
  station : Option Serial
  grant : Option Source
  oven : List Serial
  holds : List Serial

/-- The roster of a state. -/
def State.roster (s : State) : Roster where
  places n := (s.record? n).map BoardRecord.place
  queue l := (s.lane l).ctl.queue.map (·.serial)
  state l := (s.lane l).ctl.state
  exit l := (s.gate.exit l).map (·.serial)
  station := s.gate.station.map (·.serial)
  grant := s.gate.grant
  oven := s.oven.queue.map (·.serial)
  holds := s.holds.map (·.serial)

/-- R39, R41, R58, R142, R158, R168: the boards of each location are those of the structure that keeps it. -/
structure Roster.Agrees (r : Roster) : Prop where
  queued : ∀ n l, n ∈ r.queue l ↔ r.places.Queued n l
  board : ∀ l, (r.state l).holdsBoard = true ↔ ∃ n, r.places.At n (.lane l)
  single : ∀ l m n, r.places.At m (.lane l) → r.places.At n (.lane l) → m = n
  exits : ∀ l n, r.exit l = some n → r.places.At n (.lane l)
  exit : ∀ l, (r.exit l).isSome = true ↔ r.state l = .exitWait
  grant : ∀ l, r.grant = some (.lane l) ↔ r.state l = .transfer
  station : ∀ n, r.station = some n ↔ r.places.At n .returnStation
  oven : ∀ n, n ∈ r.oven ↔ r.places.At n .oven
  ovenOnce : r.oven.Nodup
  hold : ∀ n, n ∈ r.holds ↔ r.places.At n .hold
  holdOnce : r.holds.Nodup
  held : ∀ n q, r.places n = some q → (q.held = true ↔ q.location = .hold)
  returning : r.grant = some .returnStation → r.station.isSome = true

namespace Places

variable (ps : Places) {m n : Serial} {q : Place}

theorem at_of_eq {ps : Places} (h : ps n = some q) (x : Location) : ps.At n x ↔ q.location = x := by simp [At, h]

theorem queued_of_eq {ps : Places} (h : ps n = some q) (l : LaneId) :
    ps.Queued n l ↔ q.location = .announceQueue ∧ q.lane = l := by simp [Queued, h]

theorem at_none (x : Location) : (At (Function.update ps n none) m x) ↔ m ≠ n ∧ ps.At m x := by
  by_cases h : m = n <;> simp [At, h]

theorem queued_none (l : LaneId) : Queued (Function.update ps n none) m l ↔ m ≠ n ∧ ps.Queued m l := by
  by_cases h : m = n <;> simp [Queued, h]

theorem at_some (x : Location) :
    At (Function.update ps n (some q)) m x ↔ if m = n then q.location = x else ps.At m x := by
  by_cases h : m = n <;> simp [At, h]

theorem queued_some (l : LaneId) :
    Queued (Function.update ps n (some q)) m l ↔
      if m = n then q.location = .announceQueue ∧ q.lane = l else ps.Queued m l := by
  by_cases h : m = n <;> simp [Queued, h]

end Places

namespace Roster

/-- Board `n` placed anew, or nowhere. -/
def setPlace (r : Roster) (n : Serial) (q : Option Place) : Roster := { r with places := Function.update r.places n q }

def setQueue (r : Roster) (l : LaneId) (ns : List Serial) : Roster := { r with queue := Function.update r.queue l ns }

def setState (r : Roster) (l : LaneId) (x : LaneState) : Roster := { r with state := Function.update r.state l x }

def setExit (r : Roster) (l : LaneId) (n : Option Serial) : Roster := { r with exit := Function.update r.exit l n }

@[simp] theorem setState_self (r : Roster) (l : LaneId) : r.setState l (r.state l) = r := by simp [setState]

@[simp] theorem setQueue_self (r : Roster) (l : LaneId) : r.setQueue l (r.queue l) = r := by simp [setQueue]

@[simp] theorem setState_setState (r : Roster) (l : LaneId) (x y : LaneState) :
    (r.setState l x).setState l y = r.setState l y := by simp [setState]

@[simp] theorem setPlace_setPlace (r : Roster) (n : Serial) (p q : Option Place) :
    (r.setPlace n p).setPlace n q = r.setPlace n q := by simp [setPlace]

namespace Agrees

variable {r : Roster} {n : Serial} {q : Place} {l : LaneId}

/-- No structure keeps a board without a record. -/
theorem not_at (hq : r.places n = none) (x : Location) : ¬ r.places.At n x := fun ⟨_, h, _⟩ => by simp [hq] at h

theorem not_queued (hq : r.places n = none) (l : LaneId) : ¬ r.places.Queued n l := fun ⟨_, h, _⟩ => by simp [hq] at h

/-! ### A board leaves its place -/

/-- R58: a board leaves its announce queue. -/
theorem takeQueue (h : r.Agrees) (hq : r.places n = some q) (hx : q.location = .announceQueue) :
    ((r.setPlace n none).setQueue q.lane ((r.queue q.lane).filter (· != n))).Agrees := by
  have hat := Places.at_of_eq hq
  have hqueued := Places.queued_of_eq hq
  obtain ⟨_, _, hsingle, _, _, _, _, _, _, _, _, _, _⟩ := h
  constructor <;>
    simp only [setPlace, setQueue, Places.at_none, Places.queued_none, Function.update_apply]
  case single => exact fun l m n hm hn => hsingle l m n hm.2 hn.2
  all_goals grind

/-- R57: a lane lets its board go, with its entry at the gate and its grant. -/
theorem takeLane (h : r.Agrees) (hq : r.places n = some q) (hx : q.location = .lane l) {x : LaneState}
    (hb : x.holdsBoard = false) {g : Option Source} (hg : g = if r.grant = some (.lane l) then none else r.grant) :
    { ((r.setPlace n none).setState l x).setExit l none with grant := g }.Agrees := by
  have hat := Places.at_of_eq hq
  have hqueued := Places.queued_of_eq hq
  obtain ⟨_, hboard, hsingle, _, _, _, _, _, _, _, _, _, _⟩ := h
  constructor <;>
    simp only [setPlace, setState, setExit, Places.at_none, Places.queued_none, Function.update_apply]
  case board =>
    intro m
    by_cases hm : m = l
    · subst hm
      have hnone : ∀ k, r.places.At k (.lane m) → k = n := fun k hk => hsingle m k n hk ((hat _).2 hx)
      simpa [hb] using fun k hk hat => hk (hnone k hat)
    · rw [if_neg hm, hboard m]
      exact ⟨fun ⟨k, hk⟩ => ⟨k, by grind, hk⟩, fun ⟨k, _, hk⟩ => ⟨k, hk⟩⟩
  all_goals grind [LaneState.holdsBoard]

/-- R142: the return station lets its board go. -/
theorem takeStation (h : r.Agrees) (hq : r.places n = some q) (hx : q.location = .returnStation) {g : Option Source}
    (hg : g = if r.grant = some .returnStation then none else r.grant) :
    { r.setPlace n none with station := none, grant := g }.Agrees := by
  have hat := Places.at_of_eq hq
  have hqueued := Places.queued_of_eq hq
  have hn : r.station = some n := (h.station n).2 ((hat _).2 hx)
  obtain ⟨_, _, hsingle, _, _, _, _, _, _, _, _, _, _⟩ := h
  constructor <;> simp only [setPlace, Places.at_none, Places.queued_none]
  case single => exact fun l m n hm hn => hsingle l m n hm.2 hn.2
  all_goals grind

/-- R163: the board at the head of the occupancy queue leaves it. -/
theorem takeOven (h : r.Agrees) {ns : List Serial} (ho : r.oven = n :: ns) :
    { r.setPlace n none with oven := ns }.Agrees := by
  obtain ⟨q, hq, hx⟩ := (h.oven n).1 (ho ▸ List.mem_cons_self)
  have hat := Places.at_of_eq hq
  have hqueued := Places.queued_of_eq hq
  obtain ⟨_, _, hsingle, _, _, _, _, _, _, _, _, _, _⟩ := h
  constructor <;> simp only [setPlace, Places.at_none, Places.queued_none]
  case single => exact fun l m n hm hn => hsingle l m n hm.2 hn.2
  all_goals grind

/-- R174: a held board leaves the hold table. -/
theorem takeHold (h : r.Agrees) (hq : r.places n = some q) (hx : q.location = .hold) :
    { r.setPlace n none with holds := r.holds.filter (· != n) }.Agrees := by
  have hat := Places.at_of_eq hq
  have hqueued := Places.queued_of_eq hq
  obtain ⟨_, _, hsingle, _, _, _, _, _, _, _, honce, _, _⟩ := h
  constructor <;> simp only [setPlace, Places.at_none, Places.queued_none]
  case single => exact fun l m n hm hn => hsingle l m n hm.2 hn.2
  case holdOnce => exact honce.filter _
  all_goals grind

/-! ### A board without a place is placed -/

/-- R48, R177: at the tail of an announce queue. -/
theorem putQueue (h : r.Agrees) (hn : r.places n = none) (hx : q.location = .announceQueue) (hh : q.held = false) :
    ((r.setPlace n (some q)).setQueue q.lane (r.queue q.lane ++ [n])).Agrees := by
  have hat := not_at hn
  have hqueued := not_queued hn
  obtain ⟨_, _, hsingle, _, _, _, _, _, _, _, _, _, _⟩ := h
  constructor <;>
    simp only [setPlace, setQueue, Places.at_some, Places.queued_some, Function.update_apply]
  all_goals grind

/-- R57: in a lane without a board. -/
theorem putLane (h : r.Agrees) (hn : r.places n = none) (hx : q.location = .lane l) (hh : q.held = false)
    {x : LaneState} (hb : x.holdsBoard = true) (hw : x ≠ .exitWait) (ht : x ≠ .transfer) (hl : (r.state l).holdsBoard = false) :
    ((r.setPlace n (some q)).setState l x).Agrees := by
  have hat := not_at hn
  have hqueued := not_queued hn
  obtain ⟨_, hboard, hsingle, _, _, _, _, _, _, _, _, _, _⟩ := h
  constructor <;>
    simp only [setPlace, setState, Places.at_some, Places.queued_some, Function.update_apply]
  case board =>
    intro m
    by_cases hm : m = l
    · subst hm
      simpa [hb] using ⟨n, by simp [hx]⟩
    · rw [if_neg hm, hboard m]
      exact ⟨fun ⟨k, hk⟩ => ⟨k, by grind⟩, fun ⟨k, hk⟩ => ⟨k, by grind⟩⟩
  all_goals grind [LaneState.holdsBoard]

/-- R178: at an empty return station. -/
theorem putStation (h : r.Agrees) (hn : r.places n = none) (hx : q.location = .returnStation) (hh : q.held = false)
    (he : r.station = none) : { r.setPlace n (some q) with station := some n }.Agrees := by
  have hat := not_at hn
  have hqueued := not_queued hn
  obtain ⟨_, _, hsingle, _, _, _, _, _, _, _, _, _, _⟩ := h
  constructor <;> simp only [setPlace, Places.at_some, Places.queued_some]
  all_goals grind

/-- R148, R158: at the tail of the occupancy queue. -/
theorem putOven (h : r.Agrees) (hn : r.places n = none) (hx : q.location = .oven) (hh : q.held = false) :
    { r.setPlace n (some q) with oven := r.oven ++ [n] }.Agrees := by
  have hat := not_at hn
  have hqueued := not_queued hn
  obtain ⟨_, _, hsingle, _, _, _, _, _, _, _, _, _, _⟩ := h
  constructor <;> simp only [setPlace, Places.at_some, Places.queued_some]
  all_goals grind

/-- R168, R170: in the hold table. -/
theorem putHold (h : r.Agrees) (hn : r.places n = none) (hx : q.location = .hold) (hh : q.held = true) :
    { r.setPlace n (some q) with holds := r.holds ++ [n] }.Agrees := by
  have hat := not_at hn
  have hqueued := not_queued hn
  obtain ⟨_, _, hsingle, _, _, _, _, _, _, _, _, _, _⟩ := h
  constructor <;> simp only [setPlace, Places.at_some, Places.queued_some]
  all_goals grind

/-! ### Every board stays where it is -/

/-- A lane changes its state: it has a board before and after or neither, and no business with the gate. -/
theorem changeState (h : r.Agrees) {x : LaneState} (hb : x.holdsBoard = (r.state l).holdsBoard)
    (hw : x = .exitWait ↔ r.state l = .exitWait) (ht : x = .transfer ↔ r.state l = .transfer) :
    (r.setState l x).Agrees := by
  obtain ⟨_, _, _, _, _, _, _, _, _, _, _, _, _⟩ := h
  constructor <;> simp only [setState, Function.update_apply]
  case board => grind
  case exit => grind
  case grant => grind
  all_goals assumption

/-- R136, R141: a lane's board becomes a requester at the gate. -/
theorem enterExit (h : r.Agrees) (hb : r.places.At n (.lane l)) (ht : r.state l ≠ .transfer) :
    ((r.setState l .exitWait).setExit l (some n)).Agrees := by
  obtain ⟨_, hboard, _, _, _, _, _, _, _, _, _, _, _⟩ := h
  constructor <;> simp only [setState, setExit, Function.update_apply]
  case board => grind [LaneState.holdsBoard]
  case exits => grind
  case exit => grind
  case grant => grind
  all_goals assumption

/-- R147: the grant to a lane. -/
theorem grantLane (h : r.Agrees) (he : (r.exit l).isSome = true) (hg : r.grant = none) :
    { (r.setState l .transfer).setExit l none with grant := some (.lane l) }.Agrees := by
  obtain ⟨_, _, _, _, _, _, _, _, _, _, _, _, _⟩ := h
  constructor <;> simp only [setState, setExit, Function.update_apply]
  case board => grind [LaneState.holdsBoard]
  case exits => grind
  case exit => grind
  case grant => grind
  case returning => exact nofun
  all_goals assumption

/-- R147: the grant to the return station. -/
theorem grantStation (h : r.Agrees) (hs : r.station.isSome = true) (hg : r.grant = none) :
    { r with grant := some .returnStation }.Agrees := by
  have hgrant := h.grant
  exact { h with grant := by grind, returning := fun _ => hs }

end Agrees
end Roster
end Sys2Proof.Machine
end

section
/-!
A sound lane by itself, and `Placed` as a roster that agrees beside two sound lanes; what the operations on single
blocks do to the roster.
-/

namespace Sys2Proof.Machine

open Sys2Proof

/-! ### A lane by itself -/

/-- What runs in a lane follows its lane state, the gate apart. With `w`, a START may wait at a CLOSED sequencer: it is
served in the same event (R117 step 5). -/
structure Lane.Sound (x : Lane) (w : Prop) : Prop where
  path : x.path.Numbered
  check : x.checker.checkTimer.isSome = true ↔ x.ctl.state = .checking
  pace : x.checker.paceTimer.isSome = true → x.ctl.state = .checking
  eject : x.ctl.ejectTimer.isSome = true ↔ x.ctl.state = .ejecting
  running : x.path.seq ≠ .closed → x.ctl.state = .spraying ∧ x.path.executing = some x.path.cursor ∧
    1 ≤ x.path.cursor ∧ x.path.cursor ≤ x.path.queue.length
  gap : x.path.gapTimer.isSome = true → x.ctl.state = .spraying ∧ x.path.seq = .closed
  start : ¬w → x.station.startSlot.isSome = true → x.path.seq ≠ .closed
  ends : x.station.endSlot = none
  readings : x.station.inspectQueue ≠ [] → x.ctl.state = .checking
  rest : x.ctl.state = .off ∨ x.ctl.state = .idle → x.ctl.disablePending = false ∧ x.station.boardSlot = Option.none
  report : x.station.boardSlot ≠ some .cleared

/-- Nothing runs in the lane: no timer of its own but the gap timer, no check, no segment, and no record waits but an
ARRIVED. -/
structure Lane.Quiet (x : Lane) (w : Prop) : Prop where
  path : x.path.Numbered
  check : x.checker.checkTimer = none
  pace : x.checker.paceTimer = none
  eject : x.ctl.ejectTimer = none
  closed : x.path.seq = .closed
  start : ¬w → x.station.startSlot = none
  ends : x.station.endSlot = none
  readings : x.station.inspectQueue = []
  report : x.station.boardSlot ≠ some .cleared

namespace Lane

variable {x : Lane} {w : Prop}

theorem Sound.closed (h : x.Sound w) (hx : x.ctl.state ≠ .spraying) : x.path.seq = .closed :=
  Decidable.byContradiction fun hn => hx (h.running hn).1

theorem Sound.quiet (h : x.Sound w) (hc : x.ctl.state ≠ .checking) (he : x.ctl.state ≠ .ejecting)
    (hq : x.path.seq = .closed) : x.Quiet w where
  path := h.path
  check := by simpa [hc] using h.check
  pace := by simpa [hc] using h.pace
  eject := by simpa [he] using h.eject
  closed := hq
  start := fun hw => by simpa [hq] using h.start hw
  ends := h.ends
  readings := by simpa [hc] using h.readings
  report := h.report

/-- A quiet lane is sound in every state that needs nothing to run. -/
theorem Quiet.sound (h : x.Quiet w) (hg : x.path.gapTimer = none) (hc : x.ctl.state ≠ .checking)
    (he : x.ctl.state ≠ .ejecting) (ho : x.ctl.state ≠ .off) (hi : x.ctl.state ≠ .idle) : x.Sound w where
  path := h.path
  check := by simp [h.check, hc]
  pace := by simp [h.pace]
  eject := by simp [h.eject, he]
  running := fun hn => absurd h.closed hn
  gap := by simp [hg]
  start := fun hw => by simp [h.start hw]
  ends := h.ends
  readings := fun hn => absurd h.readings hn
  rest := by simp [ho, hi]
  report := h.report

/-- R66: a quiet lane with its eject timer running is sound in EJECTING. -/
theorem Quiet.ejecting (h : x.Quiet w) (hg : x.path.gapTimer = none) {c : LaneCtl} (hx : c.state = .ejecting)
    (ht : c.ejectTimer.isSome = true) : Lane.Sound { x with ctl := c } w where
  path := h.path
  check := by simp [h.check, hx]
  pace := by simp [h.pace]
  eject := by simp [ht, hx]
  running := fun hn => absurd h.closed hn
  gap := by simp [hg]
  start := fun hw => by simp [h.start hw]
  ends := h.ends
  readings := fun hn => absurd h.readings hn
  rest := by simp [hx]
  report := h.report

/-- R87: a quiet lane with its check timer running is sound in CHECKING. -/
theorem Quiet.checking (h : x.Quiet w) (hg : x.path.gapTimer = none) {c : LaneCtl} {m : MaskChecker}
    (hx : c.state = .checking) (he : c.ejectTimer = none) (ht : m.checkTimer.isSome = true) :
    Lane.Sound { x with ctl := c, checker := m } w where
  path := h.path
  check := by simp [ht, hx]
  pace := fun _ => hx
  eject := by simp [he, hx]
  running := fun hn => absurd h.closed hn
  gap := by simp [hg]
  start := fun hw => by simp [h.start hw]
  ends := h.ends
  readings := fun _ => hx
  rest := by simp [hx]
  report := h.report

/-- R60, R62: a quiet lane with nothing pending and nothing in its BOARD slot is sound at rest. -/
theorem Quiet.rest (h : x.Quiet w) (hg : x.path.gapTimer = none) {c : LaneCtl} (hx : c.state = .off ∨ c.state = .idle)
    (ht : c.ejectTimer = none) (hd : c.disablePending = false) (hs : x.station.boardSlot = none) :
    Lane.Sound { x with ctl := c } w where
  path := h.path
  check := by rcases hx with hx | hx <;> simp [h.check, hx]
  pace := by simp [h.pace]
  eject := by rcases hx with hx | hx <;> simp [ht, hx]
  running := fun hn => absurd h.closed hn
  gap := by simp [hg]
  start := fun hw => by simp [h.start hw]
  ends := h.ends
  readings := fun hn => absurd h.readings hn
  rest := fun _ => ⟨hd, hs⟩
  report := h.report

theorem Sound.gap_none (h : x.Sound w) (hx : x.ctl.state ≠ .spraying) : x.path.gapTimer = none := by
  have := h.gap
  cases hg : x.path.gapTimer with
  | none => rfl
  | some t => exact absurd (h.gap (by simp [hg])).1 hx

end Lane

/-! ### The parts of `Placed` -/

/-- Every board in its place: serials are distinct, the roster agrees, and each lane is sound; the START of a lane with
`p` may still be waiting to be served. -/
structure State.PlacedBut (s : State) (p : LaneId → Prop) : Prop where
  distinct : (s.records.map (·.serial)).Nodup
  agrees : s.roster.Agrees
  lanes : ∀ l, (s.lane l).Sound (p l)

theorem record?_eq_some_iff {s : State} (hd : (s.records.map (·.serial)).Nodup) {n : Serial} {b : BoardRecord} :
    s.record? n = some b ↔ b ∈ s.records ∧ b.serial = n := by
  refine ⟨fun h => ⟨record?_mem s n b h, record?_serial s n b h⟩, fun ⟨hb, hn⟩ => ?_⟩
  cases hr : s.record? n with
  | none => exact absurd hn (serial_ne_of_record?_none hr b hb)
  | some c =>
    rw [List.inj_on_of_nodup_map hd (record?_mem s n c hr) hb ((record?_serial s n c hr).trans hn.symm)]

@[simp] theorem roster_places (s : State) (n : Serial) : s.roster.places n = (s.record? n).map BoardRecord.place := rfl

theorem roster_at_iff {s : State} (hd : (s.records.map (·.serial)).Nodup) (n : Serial) (x : Location) :
    s.roster.places.At n x ↔ s.At n x := by
  simp [Places.At, State.At, record?_eq_some_iff hd, BoardRecord.place, and_assoc]

theorem roster_queued_iff {s : State} (hd : (s.records.map (·.serial)).Nodup) (n : Serial) (l : LaneId) :
    s.roster.places.Queued n l ↔ ∃ b ∈ s.records, b.serial = n ∧ b.location = .announceQueue ∧ b.lane = l := by
  simp [Places.Queued, record?_eq_some_iff hd, BoardRecord.place, and_assoc]

theorem laneSound_iff (s : State) (l : LaneId) :
    s.LaneSound l ↔ (s.lane l).Sound False ∧ ((s.gate.exit l).isSome = true ↔ (s.lane l).ctl.state = .exitWait) ∧
      (s.gate.grant = some (.lane l) ↔ (s.lane l).ctl.state = .transfer) :=
  ⟨fun h => ⟨⟨h.path, h.check, h.pace, h.eject, h.running, h.gap, fun _ => h.start, h.ends, h.readings, h.rest,
      h.report⟩, h.exit, h.grant⟩,
    fun ⟨h, hx, hg⟩ => ⟨h.path, h.check, h.pace, h.eject, h.running, h.gap, h.start not_false, h.ends, h.readings,
      h.rest, h.report, hx, hg⟩⟩

/-- `Placed` says that the roster agrees and the lanes are sound. -/
theorem placed_iff (s : State) : s.Placed ↔ s.PlacedBut fun _ => False := by
  constructor
  · intro h
    have hat := roster_at_iff h.distinct
    have hqueued := roster_queued_iff h.distinct
    have hlane l := (laneSound_iff s l).1 (h.lanes l)
    refine ⟨h.distinct, ?_, fun l => (hlane l).1⟩
    constructor
    case queued =>
      intro n l
      rw [hqueued]
      constructor
      · intro hn
        obtain ⟨e, he, rfl⟩ := List.mem_map.1 hn
        obtain ⟨b, hb, hs, rfl⟩ := h.queueKnown l e he
        exact ⟨b, hb, hs, (h.queued b hb).2 ⟨e, he, hs.symm⟩, rfl⟩
      · rintro ⟨b, hb, rfl, hx, rfl⟩
        exact List.mem_map.2 ((h.queued b hb).1 hx)
    case board => exact fun l => (h.board l).trans (by simp [hat, State.At])
    case single =>
      intro l m n hm hn
      obtain ⟨b, hb, rfl, hbl⟩ := (hat _ _).1 hm
      obtain ⟨c, hc, rfl, hcl⟩ := (hat _ _).1 hn
      rw [h.single l b hb c hc hbl hcl]
    case exits =>
      intro l n hn
      obtain ⟨w, hw, rfl⟩ := Option.map_eq_some_iff.1 hn
      exact (hat _ _).2 (h.exits l w hw)
    case exit => exact fun l => by simpa [State.roster] using (hlane l).2.1
    case grant => exact fun l => (hlane l).2.2
    case station => exact fun n => (h.station n).symm.trans (hat _ _).symm
    case oven => exact fun n => List.mem_map.trans ((h.oven n).symm.trans (hat _ _).symm)
    case ovenOnce => exact h.ovenOnce
    case hold => exact fun n => List.mem_map.trans ((h.hold n).symm.trans (hat _ _).symm)
    case holdOnce => exact h.holdOnce
    case held =>
      intro n q hq
      obtain ⟨b, hb, rfl⟩ := Option.map_eq_some_iff.1 hq
      simpa [BoardRecord.place] using h.held b (record?_mem s n b hb)
    case returning => exact fun hg => by simpa [State.roster] using h.returning hg
  · rintro ⟨hd, h, hlanes⟩
    have hat := roster_at_iff hd
    have hqueued := roster_queued_iff hd
    have hknown : ∀ b ∈ s.records, s.roster.places b.serial = some b.place := fun b hb => by
      simp [(record?_eq_some_iff hd).2 ⟨hb, rfl⟩]
    constructor
    case distinct => exact hd
    case lanes =>
      exact fun l => (laneSound_iff s l).2 ⟨hlanes l, by simpa [State.roster] using h.exit l, h.grant l⟩
    case queued =>
      intro b hb
      have := h.queued b.serial b.lane
      rw [Places.queued_of_eq (hknown b hb)] at this
      simpa [State.roster, BoardRecord.place] using this.symm
    case queueKnown =>
      intro l e he
      obtain ⟨b, hb, hs, -, hl⟩ := (hqueued _ _).1 ((h.queued e.serial l).1 (List.mem_map_of_mem he))
      exact ⟨b, hb, hs, hl⟩
    case board => exact fun l => (h.board l).trans (by simp [hat, State.At])
    case single =>
      intro l b hb c hc hbl hcl
      exact List.inj_on_of_nodup_map hd hb hc
        (h.single l _ _ ((hat _ _).2 ⟨b, hb, rfl, hbl⟩) ((hat _ _).2 ⟨c, hc, rfl, hcl⟩))
    case exits => exact fun l w hw => (hat _ _).1 (h.exits l w.serial (by simp [State.roster, hw]))
    case station => exact fun n => (hat _ _).symm.trans (h.station n).symm
    case oven => exact fun n => (hat _ _).symm.trans ((h.oven n).symm.trans List.mem_map)
    case ovenOnce => exact h.ovenOnce
    case hold => exact fun n => (hat _ _).symm.trans ((h.hold n).symm.trans List.mem_map)
    case holdOnce => exact h.holdOnce
    case held => exact fun b hb => by simpa [BoardRecord.place] using h.held _ _ (hknown b hb)
    case returning => exact fun hg => by simpa [State.roster] using h.returning hg

/-! ### The roster after each operation on a block -/

section Roster

variable (s : State) (l : LaneId) (n : Serial)

@[simp] theorem roster_raise (k : EventKind) (x : Option LaneId) (c : Nat) : (raise k x n c s).roster = s.roster := rfl

@[simp] theorem roster_modPort (p : Port) (f : PortState → PortState) : (s.modPort p f).roster = s.roster := by
  cases p <;> rfl

theorem roster_modLane (f : Lane → Lane) :
    (s.modLane l f).roster = (s.roster.setState l (f (s.lane l)).ctl.state).setQueue l
      ((f (s.lane l)).ctl.queue.map (·.serial)) := by
  have hlane (m : LaneId) : (s.modLane l f).lane m = if m = l then f (s.lane l) else s.lane m := by
    cases l <;> cases m <;> rfl
  simp only [State.roster, Roster.setState, Roster.setQueue, State.record?, modLane_records, modLane_gate, modLane_oven,
    modLane_holds, hlane, Roster.mk.injEq, true_and, and_true]
  constructor
  all_goals
    funext m
    by_cases hm : m = l
    · subst hm
      simp
    · simp [hm]

/-- A change of a lane's blocks that leaves its state and its announce queue. -/
theorem roster_modLane_same {f : Lane → Lane} (hx : (f (s.lane l)).ctl.state = (s.lane l).ctl.state)
    (hq : (f (s.lane l)).ctl.queue = (s.lane l).ctl.queue) : (s.modLane l f).roster = s.roster := by
  rw [roster_modLane, hx, hq]
  exact (congrArg (Roster.setQueue · l _) (Roster.setState_self ..)).trans (Roster.setQueue_self ..)

@[simp] theorem roster_modPath (f : PathExec → PathExec) : (s.modPath l f).roster = s.roster :=
  roster_modLane_same s l rfl rfl

/-- A change of a Lane Controller that leaves its announce queue. -/
theorem roster_modCtl {f : LaneCtl → LaneCtl} (hq : (f (s.lane l).ctl).queue = (s.lane l).ctl.queue) :
    (s.modCtl l f).roster = s.roster.setState l (f (s.lane l).ctl).state := by
  rw [State.modCtl, roster_modLane]
  dsimp only
  rw [hq]
  exact Roster.setQueue_self (s.roster.setState l _) l

@[simp] theorem roster_setLaneState (x : LaneState) : (s.setLaneState l x).roster = s.roster.setState l x :=
  roster_modCtl s l rfl

theorem roster_leaveQueue :
    (s.leaveQueue l n).roster = s.roster.setQueue l ((s.roster.queue l).filter (· != n)) := by
  rw [State.leaveQueue, State.modCtl, roster_modLane]
  dsimp only
  rw [show (s.lane l).ctl.state = s.roster.state l from rfl, Roster.setState_self]
  simp [State.roster, List.filter_map, Function.comp_def]

theorem roster_joinQueue (e : QueueEntry) :
    (s.joinQueue l e).roster = s.roster.setQueue l (s.roster.queue l ++ [e.serial]) := by
  rw [State.joinQueue, State.modCtl, roster_modLane]
  dsimp only
  rw [show (s.lane l).ctl.state = s.roster.state l from rfl, Roster.setState_self]
  simp [State.roster]

theorem roster_setExit (w : Option Waiting) :
    { s with gate := s.gate.setExit l w }.roster = s.roster.setExit l (w.map (·.serial)) := by
  have hlane (m : LaneId) : (State.lane { s with gate := s.gate.setExit l w } m) = s.lane m := by cases m <;> rfl
  simp only [State.roster, Roster.setExit, hlane, setExit_grant, setExit_station, Roster.mk.injEq, true_and, and_true]
  refine ⟨rfl, ?_⟩
  funext m
  by_cases hm : m = l
  · subst hm
    simp
  · simp [hm, setExit_exit_ne]

theorem record?_removeRecord (m : Serial) :
    (s.removeRecord n).record? m = if m = n then none else s.record? m := by
  simp only [State.record?, State.removeRecord, List.find?_filter]
  by_cases hm : m = n
  · subst hm
    rw [if_pos rfl, List.find?_eq_none]
    simp
  · rw [if_neg hm]
    congr 1
    funext r
    by_cases hr : r.serial = m <;> simp [hr, hm]

@[simp] theorem roster_removeRecord : (s.removeRecord n).roster = s.roster.setPlace n none := by
  simp only [State.roster, Roster.setPlace, removeRecord_lane, removeRecord_gate, removeRecord_oven, removeRecord_holds]
  congr 1
  funext m
  by_cases hm : m = n <;> simp [record?_removeRecord, hm]

theorem record?_modRecord {f : BoardRecord → BoardRecord} (hf : ∀ r, r.serial = n → (f r).serial = n) (m : Serial) :
    (s.modRecord n f).record? m = if m = n then (s.record? n).map f else s.record? m := by
  have hserial (r : BoardRecord) : (if r.serial = n then f r else r).serial = r.serial := by
    split
    · rw [hf r ‹_›, ‹r.serial = n›]
    · rfl
  have hpred : ((fun r : BoardRecord => r.serial == m) ∘ fun r => if r.serial = n then f r else r) =
      fun r => r.serial == m := by
    funext r
    simp [hserial]
  simp only [State.record?, State.modRecord, List.find?_map, hpred]
  cases hr : s.records.find? (·.serial == m) with
  | none =>
    by_cases hm : m = n
    · subst hm
      simp [hr]
    · simp [hm]
  | some b =>
    have hb : b.serial = m := by simpa using List.find?_some hr
    by_cases hm : m = n
    · subst hm
      simp [hr, hb]
    · simp [hm, hb]

theorem roster_modRecord {f : BoardRecord → BoardRecord} (hf : ∀ r, r.serial = n → (f r).serial = n) :
    (s.modRecord n f).roster = s.roster.setPlace n ((s.record? n).map fun b => (f b).place) := by
  simp only [State.roster, Roster.setPlace, modRecord_lane, modRecord_gate, modRecord_oven, modRecord_holds]
  congr 1
  funext m
  by_cases hm : m = n
  · subst hm
    simp [record?_modRecord s m hf, Function.comp_def]
  · simp [record?_modRecord s n hf, hm]

/-- A change of a record that leaves its board where it is. -/
theorem roster_modRecord_same {f : BoardRecord → BoardRecord} (hf : ∀ r, r.serial = n → (f r).serial = n)
    (hp : ∀ b, s.record? n = some b → (f b).place = b.place) : (s.modRecord n f).roster = s.roster := by
  have hsame : (s.record? n).map (fun b => (f b).place) = s.roster.places n := Option.map_congr hp
  rw [roster_modRecord s n hf, hsame]
  simp only [Roster.setPlace, Function.update_eq_self]

/-- A reason leaves the stage of a record. -/
theorem addReason_stage {r : Reason} {m : Serial} {b : BoardRecord} (hb : (s.addReason n r).record? m = some b) :
    ∃ c, s.record? m = some c ∧ c.stage = b.stage := by
  rw [State.addReason, record?_modRecord s n fun _ hr => by exact hr] at hb
  split at hb
  · obtain ⟨c, hc, rfl⟩ := Option.map_eq_some_iff.1 hb
    exact ⟨c, by simp [*], rfl⟩
  · exact ⟨b, hb, rfl⟩

theorem distinct_modRecord {f : BoardRecord → BoardRecord} (hf : ∀ r, r.serial = n → (f r).serial = n)
    (hd : (s.records.map (·.serial)).Nodup) : ((s.modRecord n f).records.map (·.serial)).Nodup := by
  have hsame : (s.modRecord n f).records.map (·.serial) = s.records.map (·.serial) := by
    simp only [State.modRecord, List.map_map]
    refine List.map_congr_left fun r _ => ?_
    by_cases hr : r.serial = n
    · simp [hr, hf r hr]
    · simp [hr]
  rwa [hsame]

theorem distinct_removeRecord (hd : (s.records.map (·.serial)).Nodup) :
    ((s.removeRecord n).records.map (·.serial)).Nodup := hd.sublist (List.filter_sublist.map _)

end Roster

end Sys2Proof.Machine
end

section
/-!
The shared operations keep every board in its place: the holds, the gate and the lane's states.
-/

namespace Sys2Proof.Machine

open Sys2Proof

/-- Board `n` is on its way: its record is there, and everything else is in its place. -/
structure State.Moving (s : State) (n : Serial) (p : LaneId → Prop) : Prop where
  distinct : (s.records.map (·.serial)).Nodup
  known : (s.record? n).isSome = true
  agrees : (s.roster.setPlace n none).Agrees
  lanes : ∀ l, (s.lane l).Sound (p l)

/-- R64: what lane `l` lets go of gone, and with the lane itself in FAULT, which needs nothing, its board `n` is on its
way. -/
def State.Leaving (s : State) (l : LaneId) (n : Serial) (p : LaneId → Prop) : Prop :=
  ((s.letGo l).setLaneState l .fault).Moving n p

variable {s t : State} {l : LaneId} {n : Serial} {b : BoardRecord} {p : LaneId → Prop}

/-! ### Changes that move no board -/

theorem lanes_modLane {f : Lane → Lane} (ho : ∀ m, m ≠ l → (s.lane m).Sound (p m)) (hl : (f (s.lane l)).Sound (p l)) :
    ∀ m, ((s.modLane l f).lane m).Sound (p m) := by
  intro m
  by_cases hm : m = l
  · subst hm
    simpa using hl
  · rw [modLane_lane_ne s l m f hm]
    exact ho m hm

namespace State.PlacedBut

theorem ite {c : Prop} [Decidable c] {u : State} (h : c → t.PlacedBut p) (g : ¬c → u.PlacedBut p) :
    (if c then t else u).PlacedBut p := by
  split
  · exact h ‹_›
  · exact g ‹_›

/-- What neither the roster nor the lanes show. -/
theorem of_same (h : s.PlacedBut p) (hr : t.records = s.records) (hro : t.roster = s.roster) (h0 : t.lane0 = s.lane0)
    (h1 : t.lane1 = s.lane1) : t.PlacedBut p where
  distinct := hr ▸ h.distinct
  agrees := hro ▸ h.agrees
  lanes := fun l => by
    cases l with
    | lane0 => simpa only [State.lane, h0] using h.lanes .lane0
    | lane1 => simpa only [State.lane, h1] using h.lanes .lane1

theorem weaken {q : LaneId → Prop} (h : s.PlacedBut p) (hpq : ∀ l, p l → q l) : s.PlacedBut q :=
  ⟨h.distinct, h.agrees, fun l => { h.lanes l with start := fun hw => (h.lanes l).start (hw ∘ hpq l) }⟩

theorem raise {k : EventKind} {x : Option LaneId} {c : Nat} (h : s.PlacedBut p) : (raise k x n c s).PlacedBut p :=
  h.of_same rfl rfl rfl rfl

theorem setFreeCount {k : Nat} (h : s.PlacedBut p) : State.PlacedBut { s with freeCount := k } p :=
  h.of_same rfl rfl rfl rfl

/-- A change of a lane's blocks that leaves its lane state and its announce queue. -/
theorem modLane {f : Lane → Lane} (hx : (f (s.lane l)).ctl.state = (s.lane l).ctl.state)
    (hq : (f (s.lane l)).ctl.queue = (s.lane l).ctl.queue)
    (hf : (s.lane l).Sound (p l) → (f (s.lane l)).Sound (p l)) (h : s.PlacedBut p) : (s.modLane l f).PlacedBut p where
  distinct := by simpa using h.distinct
  agrees := by rw [roster_modLane_same s l hx hq]; exact h.agrees
  lanes := lanes_modLane (fun m _ => h.lanes m) (hf (h.lanes l))

theorem modStation {f : StationPort → StationPort}
    (hf : (s.lane l).Sound (p l) → Lane.Sound { s.lane l with station := f (s.lane l).station } (p l))
    (h : s.PlacedBut p) : (s.modStation l f).PlacedBut p := .modLane rfl rfl hf h

theorem modChecker {f : MaskChecker → MaskChecker}
    (hf : (s.lane l).Sound (p l) → Lane.Sound { s.lane l with checker := f (s.lane l).checker } (p l))
    (h : s.PlacedBut p) : (s.modChecker l f).PlacedBut p := .modLane rfl rfl hf h

theorem modPath {f : PathExec → PathExec}
    (hf : (s.lane l).Sound (p l) → Lane.Sound { s.lane l with path := f (s.lane l).path } (p l))
    (h : s.PlacedBut p) : (s.modPath l f).PlacedBut p := .modLane rfl rfl hf h

theorem modMeter {f : FlowMeter → FlowMeter} (h : s.PlacedBut p) : (s.modMeter l f).PlacedBut p :=
  .modLane rfl rfl (fun hs => { hs with }) h

/-- A change of a record that leaves its board where it is. -/
theorem modRecordOf {f : BoardRecord → BoardRecord} (hf : ∀ r, r.serial = n → (f r).serial = n)
    (hp : ∀ b, s.record? n = some b → (f b).place = b.place) (h : s.PlacedBut p) : (s.modRecord n f).PlacedBut p where
  distinct := distinct_modRecord s n hf h.distinct
  agrees := by rw [roster_modRecord_same s n hf hp]; exact h.agrees
  lanes := fun l => by simpa using h.lanes l

theorem modRecord {f : BoardRecord → BoardRecord} (hf : ∀ r, (f r).serial = r.serial ∧ (f r).place = r.place)
    (h : s.PlacedBut p) : (s.modRecord n f).PlacedBut p :=
  .modRecordOf (fun r hr => (hf r).1.trans hr) (fun b _ => (hf b).2) h

theorem addReason {r : Reason} (h : s.PlacedBut p) : (s.addReason n r).PlacedBut p := .modRecord (fun _ => ⟨rfl, rfl⟩) h

/-- A lane changes its state, both with a board or both without, and neither with business at the gate. -/
theorem changeLane {f : Lane → Lane} (hq : (f (s.lane l)).ctl.queue = (s.lane l).ctl.queue)
    (hb : (f (s.lane l)).ctl.state.holdsBoard = (s.lane l).ctl.state.holdsBoard)
    (hw : (f (s.lane l)).ctl.state = .exitWait ↔ (s.lane l).ctl.state = .exitWait)
    (ht : (f (s.lane l)).ctl.state = .transfer ↔ (s.lane l).ctl.state = .transfer)
    (hf : (s.lane l).Sound (p l) → (f (s.lane l)).Sound (p l)) (h : s.PlacedBut p) : (s.modLane l f).PlacedBut p where
  distinct := by simpa using h.distinct
  agrees := by
    have hqueue : (f (s.lane l)).ctl.queue.map (·.serial) = s.roster.queue l := congrArg _ hq
    rw [roster_modLane, hqueue]
    exact (Roster.setQueue_self (s.roster.setState l _) l).symm ▸ h.agrees.changeState hb hw ht
  lanes := lanes_modLane (fun m _ => h.lanes m) (hf (h.lanes l))

theorem setState {f : LaneCtl → LaneCtl} (hq : (f (s.lane l).ctl).queue = (s.lane l).ctl.queue)
    (hb : (f (s.lane l).ctl).state.holdsBoard = (s.lane l).ctl.state.holdsBoard)
    (hw : (f (s.lane l).ctl).state = .exitWait ↔ (s.lane l).ctl.state = .exitWait)
    (ht : (f (s.lane l).ctl).state = .transfer ↔ (s.lane l).ctl.state = .transfer)
    (hf : (s.lane l).Sound (p l) → Lane.Sound { s.lane l with ctl := f (s.lane l).ctl } (p l)) (h : s.PlacedBut p) :
    (s.modCtl l f).PlacedBut p := .changeLane hq hb hw ht hf h

theorem modCtl {f : LaneCtl → LaneCtl} (hx : (f (s.lane l).ctl).state = (s.lane l).ctl.state)
    (hq : (f (s.lane l).ctl).queue = (s.lane l).ctl.queue)
    (hf : (s.lane l).Sound (p l) → Lane.Sound { s.lane l with ctl := f (s.lane l).ctl } (p l)) (h : s.PlacedBut p) :
    (s.modCtl l f).PlacedBut p := .modLane hx hq hf h

/-! ### A lane without a board -/

/-- R66: a lane that let its board go ejects it. -/
theorem enterEjecting {x : Option Serial} (h : (s.setLaneState l .fault).PlacedBut p) :
    (s.enterEjecting l x).PlacedBut p := by
  have hcomm : s.enterEjecting l x = (s.setLaneState l .fault).modCtl l fun c =>
      { c with
        state := .ejecting
        ejectSubject := x
        ejectTimer := some (after s.clock (c.settings.ejectTimeout * 1000)) } := by cases l <;> rfl
  rw [hcomm]
  refine .setState rfl ?_ ?_ ?_ (fun hs => ?_) h
  · simp [LaneState.holdsBoard]
  · simp
  · simp
  · exact (hs.quiet (by simp) (by simp) (hs.closed (by simp))).ejecting (hs.gap_none (by simp)) rfl rfl

end State.PlacedBut

/-! ### Boards on their way (R147, R168 to R171) -/

theorem roster_setHolds (s : State) (hs : List HoldEntry) :
    { s with holds := hs }.roster = { s.roster with holds := hs.map (·.serial) } := rfl

@[simp] theorem roster_grantHold (s : State) (b : BoardRecord) (loc : HoldLocation) :
    (s.grantHold b loc).roster =
      { s.roster.setPlace b.serial ((s.record? b.serial).map fun r => ⟨r.lane, .hold, true⟩) with
        holds := s.roster.holds ++ [b.serial] } := by
  rw [State.grantHold, roster_raise, roster_modRecord _ _ fun _ hr => by exact hr, roster_setHolds]
  simp [State.roster, Roster.setPlace, State.record?, BoardRecord.place, State.holdEntry]

@[simp] theorem overflow_roster (s : State) (b : BoardRecord) (c : Nat) :
    (s.overflow b c).roster = s.roster.setPlace b.serial none := roster_removeRecord s b.serial

@[simp] theorem overflow_lane (s : State) (b : BoardRecord) (c : Nat) (l : LaneId) :
    (s.overflow b c).lane l = s.lane l := by cases l <;> rfl

namespace State.Moving

theorem modRecord {f : BoardRecord → BoardRecord} (hf : ∀ r, r.serial = n → (f r).serial = n) (h : s.Moving n p) :
    (s.modRecord n f).Moving n p where
  distinct := distinct_modRecord s n hf h.distinct
  known := by simpa [record?_modRecord s n hf] using h.known
  agrees := by simpa [roster_modRecord s n hf] using h.agrees
  lanes := fun l => by simpa using h.lanes l

theorem addReason {r : Reason} (h : s.Moving n p) : (s.addReason n r).Moving n p := h.modRecord fun _ hr => hr

theorem grantHold {loc : HoldLocation} (h : s.Moving b.serial p) : (s.grantHold b loc).PlacedBut p where
  distinct := distinct_modRecord _ _ (fun _ hr => by exact hr) h.distinct
  agrees := by
    obtain ⟨r, hr⟩ := Option.isSome_iff_exists.1 h.known
    have hput := h.agrees.putHold (n := b.serial) (q := ⟨r.lane, .hold, true⟩) (by simp [Roster.setPlace]) rfl rfl
    simpa [hr, Roster.setPlace] using hput
  lanes := fun l => by simpa using h.lanes l

theorem overflow {c : Nat} (h : s.Moving b.serial p) : (s.overflow b c).PlacedBut p where
  distinct := distinct_removeRecord s b.serial h.distinct
  agrees := by simpa using h.agrees
  lanes := fun l => by simpa using h.lanes l

theorem ovenHold {loc : HoldLocation} (h : s.Moving b.serial p) : (s.ovenHold b loc).PlacedBut p :=
  .ite (fun _ => h.grantHold) fun _ => h.overflow

/-- R65: a lane without a board, and with nothing running, takes the board, not HELD, to its state. -/
theorem enterLane {f : BoardRecord → BoardRecord} {g : Lane → Lane} (h : (s.setLaneState l .fault).Moving n p)
    (hf : ∀ r, r.serial = n → (f r).serial = n)
    (hx : ∀ r, s.record? n = some r → (f r).location = .lane l ∧ (f r).stage ≠ .held)
    (hb : (g (s.lane l)).ctl.state.holdsBoard = true) (hw : (g (s.lane l)).ctl.state ≠ .exitWait)
    (ht : (g (s.lane l)).ctl.state ≠ .transfer) (hq : (g (s.lane l)).ctl.queue = (s.lane l).ctl.queue)
    (hg : (g (s.lane l)).Sound (p l)) : ((s.modRecord n f).modLane l g).PlacedBut p where
  distinct := by simpa using distinct_modRecord s n hf (by simpa using h.distinct)
  agrees := by
    obtain ⟨r, hr⟩ := Option.isSome_iff_exists.1 h.known
    have hr' : s.record? n = some r := by simpa [State.record?] using hr
    obtain ⟨hloc, hstage⟩ := hx r hr'
    have hput := h.agrees.putLane (n := n) (q := (f r).place) (x := (g (s.lane l)).ctl.state)
      (by simp [Roster.setPlace]) hloc (by simpa [BoardRecord.place] using hstage) hb hw ht
      (by simp [Roster.setPlace, Roster.setState, LaneState.holdsBoard])
    have hqueue : (g (s.lane l)).ctl.queue.map (·.serial) = s.roster.queue l := by rw [hq]; rfl
    rw [roster_modLane, roster_modRecord s n hf, hr', modRecord_lane, hqueue]
    simpa [Roster.setPlace, Roster.setState, Roster.setQueue] using hput
  lanes := by
    refine lanes_modLane (fun m hm => ?_) (by simpa using hg)
    rw [modRecord_lane, ← setLaneState_lane_ne s l m .fault hm]
    exact h.lanes m

end State.Moving

/-! ### Holds (R168 to R172) -/

@[simp] theorem roster_letGo (s : State) (l : LaneId) : (s.letGo l).roster = s.roster.setExit l none := by
  rw [State.letGo]
  simpa using roster_setExit s l none

theorem letGo_lane (s : State) (l : LaneId) : (s.letGo l).lane l = { s.lane l with path := { (s.lane l).path with
    gapTimer := none
    cursor := if (s.lane l).ctl.state = .armed ∨ (s.lane l).ctl.state = .spraying then 1
      else (s.lane l).path.cursor } } := by cases l <;> rfl

theorem letGo_lane_ne (s : State) (l m : LaneId) (h : m ≠ l) : (s.letGo l).lane m = s.lane m := by
  rw [State.letGo, State.modPath, modLane_lane_ne _ l m _ h]
  cases m <;> rfl

theorem letGo_record? (s : State) (l : LaneId) (n : Serial) : (s.letGo l).record? n = s.record? n := by
  cases l <;> rfl

theorem Lane.Quiet.letGo {w : Prop} (h : (s.lane l).Quiet w) : ((s.letGo l).lane l).Quiet w := by
  rw [letGo_lane]
  exact { h with path := { h.path with } }

/-- R64: a quiet lane's board leaves it. -/
theorem State.Leaving.of_board (hd : (s.records.map (·.serial)).Nodup) (ha : s.roster.Agrees)
    (ho : ∀ m, m ≠ l → (s.lane m).Sound (p m)) (hq : (s.lane l).Quiet (p l)) (hb : s.board l = some b)
    (hg : s.gate.grant ≠ some (.lane l)) : s.Leaving l b.serial p where
  distinct := by simpa [State.letGo] using hd
  known := by simpa [State.record?, State.letGo] using record?_of_board s l b hb
  agrees := by
    have hr : s.record? b.serial = some b := (record?_eq_some_iff hd).2 ⟨board_mem s l b hb, rfl⟩
    have htake := ha.takeLane (n := b.serial) (q := b.place) (by simp [State.roster, hr]) (board_location s l b hb)
      (x := .fault) rfl (g := s.roster.grant) (by simp [State.roster, hg])
    simpa [Roster.setPlace, Roster.setState, Roster.setExit] using htake
  lanes := by
    refine lanes_modLane (fun m hm => ?_) ?_
    · rw [letGo_lane_ne s l m hm]
      exact ho m hm
    · have hquiet := hq.letGo
      refine Lane.Quiet.sound
        (x := { (s.letGo l).lane l with ctl := { ((s.letGo l).lane l).ctl with state := .fault } })
        { hquiet with } ?_ ?_ ?_ ?_ ?_
      · simp [letGo_lane]
      all_goals simp

theorem State.Leaving.modRecord {f : BoardRecord → BoardRecord} (hf : ∀ r, r.serial = n → (f r).serial = n)
    (h : s.Leaving l n p) : (s.modRecord n f).Leaving l n p := by
  have hcomm : ((s.modRecord n f).letGo l).setLaneState l .fault =
      ((s.letGo l).setLaneState l .fault).modRecord n f := by
    cases l <;> rfl
  unfold State.Leaving
  rw [hcomm]
  exact State.Moving.modRecord hf h

theorem State.Leaving.addReason {r : Reason} (h : s.Leaving l n p) : (s.addReason n r).Leaving l n p :=
  h.modRecord fun _ hr => hr

theorem State.Leaving.dropExit (h : s.Leaving l n p) :
    State.Leaving { s with gate := s.gate.setExit l none } l n p := by
  have hcomm : ({ s with gate := s.gate.setExit l none }.letGo l) = s.letGo l := by cases l <;> rfl
  unfold State.Leaving
  rw [hcomm]
  exact h

theorem State.Leaving.known (h : s.Leaving l n p) : (s.record? n).isSome = true := by
  have hsame : ((s.letGo l).setLaneState l .fault).record? n = s.record? n := by cases l <;> rfl
  rw [← hsame]
  exact Moving.known h

/-- A lane whose board left it is quiet. -/
theorem State.Leaving.quiet (h : s.Leaving l n p) :
    ((s.letGo l).lane l).Quiet (p l) ∧ ((s.letGo l).lane l).path.gapTimer = none := by
  have hs := h.lanes l
  have hstate : (((s.letGo l).setLaneState l .fault).lane l).ctl.state = .fault := setLaneState_state _ l .fault
  have hq := hs.quiet (by simp) (by simp) (hs.closed (by simp))
  have hctl : (((s.letGo l).setLaneState l .fault).lane l) =
      { (s.letGo l).lane l with ctl := { ((s.letGo l).lane l).ctl with state := .fault } } := by cases l <;> rfl
  rw [hctl] at hq
  exact ⟨{ hq with }, by simp [letGo_lane]⟩

/-- R64, R65, R170: granted, the board is held and the lane ejects it; refused, the lane is BLOCKED with it. -/
theorem State.Leaving.laneHold (h : s.Leaving l n p) (hstage : ∀ b, s.record? n = some b → b.stage ≠ .held) :
    (s.laneHold l n).PlacedBut p := by
  rcases laneHold_cases s l n with ⟨hn, _⟩ | ⟨b, hb, _, he⟩ | ⟨b, hb, _, he⟩
  · simpa [hn] using h.known
  · rw [he]
    refine .enterEjecting ?_
    obtain rfl := record?_serial s n b hb
    have hcomm : ((s.letGo l).grantHold b (.lane l)).setLaneState l .fault =
        ((s.letGo l).setLaneState l .fault).grantHold b (.lane l) := by cases l <;> rfl
    rw [hcomm]
    exact State.Moving.grantHold h
  · rw [he]
    obtain ⟨hquiet, hgap⟩ := h.quiet
    refine .raise (State.Moving.enterLane (g := fun x => { x with ctl := { x.ctl with state := .blocked } }) h
      (fun _ hr => by exact hr) (fun r hr => ⟨rfl, ?_⟩) rfl (by simp) (by simp) rfl ?_)
    · exact hstage r (by rwa [letGo_record?] at hr)
    · exact Lane.Quiet.sound { hquiet with } hgap (by simp) (by simp) (by simp) (by simp)

end Sys2Proof.Machine
end

section
/-!
The shared operations keep every board in its place: retries, the gate's grants, and a lane's entry to its states.
-/

namespace Sys2Proof.Machine

open Sys2Proof

variable {s t : State} {l : LaneId} {n : Serial} {b : BoardRecord} {p : LaneId → Prop}

/-! ### A lane's current board -/

theorem State.PlacedBut.record?_of_board (h : s.PlacedBut p) (hb : s.board l = some b) : s.record? b.serial = some b :=
  (record?_eq_some_iff h.distinct).2 ⟨board_mem s l b hb, rfl⟩

theorem State.PlacedBut.at_of_board (h : s.PlacedBut p) (hb : s.board l = some b) :
    s.roster.places.At b.serial (.lane l) :=
  (roster_at_iff h.distinct _ _).2 ⟨b, board_mem s l b hb, rfl, board_location s l b hb⟩

/-- A lane state that needs a board has one. -/
theorem State.PlacedBut.board_isSome (h : s.PlacedBut p) (hx : (s.lane l).ctl.state.holdsBoard = true) :
    ∃ b, s.board l = some b := by
  obtain ⟨n, hn⟩ := (h.agrees.board l).1 hx
  obtain ⟨b, hb, -, hl⟩ := (roster_at_iff h.distinct _ _).1 hn
  exact Option.isSome_iff_exists.1 (List.find?_isSome.2 ⟨b, hb, by simp [hl]⟩)

theorem State.PlacedBut.holdsBoard (h : s.PlacedBut p) (hb : s.board l = some b) :
    (s.lane l).ctl.state.holdsBoard = true := (h.agrees.board l).2 ⟨_, h.at_of_board hb⟩

/-- The record at a lane is its current board. -/
theorem State.PlacedBut.board_eq (h : s.PlacedBut p) (hr : s.record? n = some b) (hl : b.location = .lane l) :
    s.board l = some b := by
  have hat : s.roster.places.At n (.lane l) := ⟨b.place, by simp [hr], hl⟩
  obtain ⟨c, hc⟩ := h.board_isSome ((h.agrees.board l).2 ⟨n, hat⟩)
  have hn : c.serial = n := h.agrees.single l _ _ (h.at_of_board hc) hat
  have hrc := h.record?_of_board hc
  rw [hn, hr, Option.some.injEq] at hrc
  rw [hc, hrc]

/-- A board that is not at HOLD is not HELD. -/
theorem State.PlacedBut.stage_ne_held (h : s.PlacedBut p) {x : Location} (hx : s.roster.places.At n x) (hn : x ≠ .hold)
    (hb : s.record? n = some b) : b.stage ≠ .held := by
  obtain ⟨q, hq, rfl⟩ := hx
  have hplace : s.roster.places n = some b.place := by simp [hb]
  rw [hplace, Option.some.injEq] at hq
  subst hq
  have hheld := h.agrees.held n b.place hplace
  exact fun hs => hn (hheld.1 (by simp [BoardRecord.place, hs]))

/-- A lane whose exit entry and gap timer are gone lets go of nothing more. -/
theorem letGo_eq_self (hx : s.gate.exit l = none) (hg : (s.lane l).path.gapTimer = none)
    (ha : (s.lane l).ctl.state ≠ .armed) (hs : (s.lane l).ctl.state ≠ .spraying) : s.letGo l = s := by
  have hgate : s.gate.setExit l none = s.gate := by
    rw [← hx]
    cases l <;> rfl
  unfold State.letGo
  simp only [ha, hs, or_self, if_false, hgate]
  rw [← hg]
  cases l <;> rfl

theorem State.PlacedBut.exit_none (h : s.PlacedBut p) (hx : (s.lane l).ctl.state ≠ .exitWait) :
    s.gate.exit l = none := by
  have he := h.agrees.exit l
  simpa [State.roster, hx] using he

theorem State.PlacedBut.letGo_eq (h : s.PlacedBut p) (hx : (s.lane l).ctl.state ≠ .exitWait)
    (ha : (s.lane l).ctl.state ≠ .armed) (hs : (s.lane l).ctl.state ≠ .spraying) : s.letGo l = s :=
  letGo_eq_self (h.exit_none hx) ((h.lanes l).gap_none hs) ha hs

/-- R64: a lane that runs neither a check nor a segment lets its current board go. -/
theorem State.PlacedBut.leaving (h : s.PlacedBut p) (hb : s.board l = some b) (hc : (s.lane l).ctl.state ≠ .checking)
    (ht : (s.lane l).ctl.state ≠ .transfer) (hq : (s.lane l).path.seq = .closed) : s.Leaving l b.serial p := by
  have hx := h.holdsBoard hb
  refine .of_board h.distinct h.agrees (fun m _ => h.lanes m) ((h.lanes l).quiet hc ?_ hq) hb ?_
  · exact fun he => by simp [he, LaneState.holdsBoard] at hx
  · exact fun hg => ht ((h.agrees.grant l).1 hg)

theorem setLaneState_grantHold (s : State) (l : LaneId) (x : LaneState) (b : BoardRecord) (loc : HoldLocation) :
    (s.grantHold b loc).setLaneState l x = (s.setLaneState l x).grantHold b loc := by cases l <;> rfl

/-- R146: a claim is an entry's. -/
theorem claims_mem {c : Source × Option Nat} (h : c ∈ s.claims) :
    (∃ l w, c.1 = .lane l ∧ s.gate.exit l = some w) ∨ c.1 = .returnStation ∧ ∃ w, s.gate.station = some w := by
  simp only [State.claims, List.mem_append] at h
  rcases h with (h | h) | h
  · obtain ⟨w, hw, -, hc⟩ := claim_mem _ _ _ _ h
    exact .inl ⟨.lane0, w, hc, hw⟩
  · obtain ⟨w, hw, -, hc⟩ := claim_mem _ _ _ _ h
    exact .inl ⟨.lane1, w, hc, hw⟩
  · obtain ⟨w, hw, -, hc⟩ := claim_mem _ _ _ _ h
    refine .inr ⟨hc, ?_⟩
    unfold Gate.stationEntry at hw
    split at hw
    · exact ⟨w, hw⟩
    · cases hw

/-- The grant and the transfer timer set together (R147, R148). -/
def State.setGrant (s : State) (g : Option Source) (t : Option Time) : State :=
  { s with gate := { s.gate with grant := g, transferTimer := t } }

@[simp] theorem roster_setGrant (s : State) (g : Option Source) (t : Option Time) :
    (s.setGrant g t).roster = { s.roster with grant := g } := rfl

@[simp] theorem setGrant_lane (s : State) (g : Option Source) (t : Option Time) (l : LaneId) :
    (s.setGrant g t).lane l = s.lane l := by cases l <;> rfl

@[simp] theorem setGrant_records (s : State) (g : Option Source) (t : Option Time) :
    (s.setGrant g t).records = s.records := rfl

/-- R147: the record of a granted board. -/
def BoardRecord.granted (b : BoardRecord) : BoardRecord := { b with stage := .transfer }

theorem granted_place (hb : b.stage ≠ .held) : b.granted.place = b.place := by
  simp [BoardRecord.granted, BoardRecord.place, hb]

theorem grantTo_lane {w : Waiting} (hw : s.gate.exit l = some w) :
    s.grantTo (.lane l) =
      (((State.modRecord { s with gate := s.gate.setExit l none } w.serial BoardRecord.granted).setLaneState l
        .transfer).setGrant (some (.lane l)) (some (after s.clock s.settings.transferTimeout))) := by
  simp only [State.grantTo, hw]
  rfl

theorem grantTo_station {w : Waiting} (hw : s.gate.station = some w) :
    s.grantTo .returnStation =
      State.setGrant { s.modRecord w.serial BoardRecord.granted with
          gate := { s.gate with station := some { w with flashTimer := false } } }
        (some .returnStation) (some (after s.clock s.settings.transferTimeout)) := by
  simp only [State.grantTo, hw]
  rfl

theorem roster_setGate (s : State) (g : Gate) : { s with gate := g }.roster =
    { s.roster with
      exit := fun l => (g.exit l).map (·.serial)
      station := g.station.map (·.serial)
      grant := g.grant } := rfl

namespace State.PlacedBut

/-! ### Retries (R172) -/

theorem retryLane (h : s.PlacedBut p) : (s.retryLane l).PlacedBut p := by
  rcases retryLane_cases s l with he | ⟨b, hb, hx, _, he⟩
  · rw [he]
    exact h
  · rw [he]
    refine .enterEjecting ?_
    have hleave := h.leaving hb (by simp [hx]) (by simp [hx]) ((h.lanes l).closed (by simp [hx]))
    rw [State.Leaving, h.letGo_eq (by simp [hx]) (by simp [hx]) (by simp [hx])] at hleave
    rw [setLaneState_grantHold]
    exact hleave.grantHold

theorem retryBlocked (h : s.PlacedBut p) : s.retryBlocked.PlacedBut p := .retryLane (.retryLane h)

/-! ### The gate (R140 to R147) -/

/-- The waiting boards keep their serials, and the grant stays. -/
theorem setGate {g : Gate} (hx : ∀ l, (g.exit l).map (·.serial) = (s.gate.exit l).map (·.serial))
    (hs : g.station.map (·.serial) = s.gate.station.map (·.serial)) (hg : g.grant = s.gate.grant)
    (h : s.PlacedBut p) : State.PlacedBut { s with gate := g } p := by
  refine h.of_same rfl ?_ rfl rfl
  simp only [roster_setGate, hx, hs, hg]
  rfl

/-- R147: the grant to a lane in EXIT_WAIT. -/
theorem grantLane {w : Waiting} (h : s.PlacedBut p) (hg : s.gate.grant = none) (hw : s.gate.exit l = some w) :
    (s.grantTo (.lane l)).PlacedBut p := by
  have hexit : s.roster.exit l = some w.serial := by simp [State.roster, hw]
  have hstate : (s.lane l).ctl.state = .exitWait := (h.agrees.exit l).1 (by simp [hexit])
  have hplace (b : BoardRecord) (hb : s.record? w.serial = some b) : b.granted.place = b.place :=
    granted_place (h.stage_ne_held (h.agrees.exits l _ hexit) nofun hb)
  rw [grantTo_lane hw]
  constructor
  case distinct =>
    simp only [setGrant_records, setLaneState_records]
    exact distinct_modRecord s w.serial (fun _ hr => by exact hr) h.distinct
  case agrees =>
    rw [roster_setGrant, roster_setLaneState,
      roster_modRecord_same { s with gate := s.gate.setExit l none } _ (fun _ hr => by exact hr) hplace, roster_setExit]
    exact h.agrees.grantLane (l := l) (by simp [hexit]) hg
  case lanes =>
    intro m
    rw [setGrant_lane]
    have hlane (m : LaneId) : (State.modRecord { s with gate := s.gate.setExit l none } w.serial
        BoardRecord.granted).lane m = s.lane m := by cases m <;> rfl
    have hs := h.lanes l
    have hq := hs.quiet (by simp [hstate]) (by simp [hstate]) (hs.closed (by simp [hstate]))
    refine lanes_modLane (fun m _ => by rw [hlane]; exact h.lanes m) ?_ m
    rw [hlane]
    exact Lane.Quiet.sound { hq with } (hs.gap_none (by simp [hstate])) (by simp) (by simp) (by simp) (by simp)

/-- R147: the grant to the return station. -/
theorem grantStation {w : Waiting} (h : s.PlacedBut p) (hg : s.gate.grant = none) (hw : s.gate.station = some w) :
    (s.grantTo .returnStation).PlacedBut p := by
  have hstation : s.roster.station = some w.serial := by simp [State.roster, hw]
  have hplace (b : BoardRecord) (hb : s.record? w.serial = some b) : b.granted.place = b.place :=
    granted_place (h.stage_ne_held ((h.agrees.station _).1 hstation) nofun hb)
  have hmoved : (s.modRecord w.serial BoardRecord.granted).PlacedBut p :=
    .modRecordOf (fun _ hr => hr) hplace h
  have hgated : State.PlacedBut { s.modRecord w.serial BoardRecord.granted with
      gate := { s.gate with station := some { w with flashTimer := false } } } p :=
    .setGate (fun m => by cases m <;> rfl) (by simp [hw]) rfl hmoved
  rw [grantTo_station hw]
  refine ⟨hgated.distinct, ?_, fun m => by rw [setGrant_lane]; exact hgated.lanes m⟩
  rw [roster_setGrant]
  exact hgated.agrees.grantStation rfl hg

/-- R144, R146: a re-evaluation grants an entry that is there, at a gate without a grant. -/
theorem reevaluate (h : s.PlacedBut p) : s.reevaluate.PlacedBut p := by
  rcases reevaluate_cases s with he | ⟨c, hf, hc, he⟩
  · rw [he]
    exact h
  · have hg : s.gate.grant = none := by
      simp only [State.gateFree, Bool.and_eq_true] at hf
      simpa using hf.1.1.1
    rw [he]
    rcases claims_mem (earliest_mem _ _ hc) with ⟨l, w, hl, hw⟩ | ⟨hr, w, hw⟩
    · rw [hl]
      exact h.grantLane hg hw
    · rw [hr]
      exact h.grantStation hg hw

theorem reevaluateStation (h : s.PlacedBut p) : s.reevaluateStation.PlacedBut p :=
  .ite (fun _ => h.reevaluate) fun _ => h

theorem reevaluateExit (h : s.PlacedBut p) : (s.reevaluateExit l).PlacedBut p := .ite (fun _ => h.reevaluate) fun _ => h

/-! ### A lane's states (R60 to R66, R87) -/

/-- R58, R61: the board of an IDLE lane's announce queue leaves it. -/
theorem leaveQueue (h : s.PlacedBut p) (hx : (s.lane l).ctl.state = .idle) (hn : n ∈ s.roster.queue l) :
    ((s.leaveQueue l n).setLaneState l .fault).Moving n p where
  distinct := by simpa [State.leaveQueue] using h.distinct
  known := by
    obtain ⟨q, hq, -⟩ := (h.agrees.queued n l).1 hn
    have hsame : ((s.leaveQueue l n).setLaneState l .fault).record? n = s.record? n := by cases l <;> rfl
    rw [hsame]
    exact (Option.map_eq_some_iff.1 hq).elim fun b hb => by simp [hb.1]
  agrees := by
    obtain ⟨q, hq, hloc, rfl⟩ := (h.agrees.queued n l).1 hn
    have htake := h.agrees.takeQueue hq hloc
    have hstate : s.roster.state q.lane = .idle := hx
    have hfault := htake.changeState (l := q.lane) (x := .fault)
      (by simp [Roster.setQueue, Roster.setPlace, hstate, LaneState.holdsBoard])
      (by simp [Roster.setQueue, Roster.setPlace, hstate]) (by simp [Roster.setQueue, Roster.setPlace, hstate])
    rw [roster_setLaneState, roster_leaveQueue]
    exact hfault
  lanes := by
    have hcomm : (s.leaveQueue l n).setLaneState l .fault = s.modCtl l fun c =>
      { c with queue := c.queue.filter fun e => e.serial != n, state := .fault } := by cases l <;> rfl
    have hs := h.lanes l
    have hq := hs.quiet (by simp [hx]) (by simp [hx]) (hs.closed (by simp [hx]))
    rw [hcomm]
    exact lanes_modLane (fun m _ => h.lanes m)
      (Lane.Quiet.sound { hq with } (hs.gap_none (by simp [hx])) (by simp) (by simp) (by simp) (by simp))

/-- R61: what an IDLE lane makes of an ARRIVED. -/
theorem takeArrived (h : s.PlacedBut p) (hx : (s.lane l).ctl.state = .idle) : (s.takeArrived l n).PlacedBut p := by
  have hs := h.lanes l
  have hgap := hs.gap_none (by simp [hx])
  have hquiet := hs.quiet (by simp [hx]) (by simp [hx]) (hs.closed (by simp [hx]))
  rcases takeArrived_cases s l n with ⟨_, he⟩ | ⟨hin, hcases⟩
  · rw [he]
    refine .enterEjecting (.setState rfl (by simp [hx, LaneState.holdsBoard]) (by simp [hx]) (by simp [hx])
      (fun _ => ?_) h.raise)
    rw [raise_lane]
    exact Lane.Quiet.sound { hquiet with } hgap (by simp) (by simp) (by simp) (by simp)
  have hmem : n ∈ s.roster.queue l := by simpa [State.roster] using hin
  have hmoving := h.leaveQueue hx hmem
  have hstage (b : BoardRecord) (hb : s.record? n = some b) : b.stage ≠ .held := by
    obtain ⟨q, hq, hloc, -⟩ := (h.agrees.queued n l).1 hmem
    exact h.stage_ne_held ⟨q, hq, rfl⟩ (by simp [hloc]) hb
  rcases hcases with ⟨_, he⟩ | ⟨b, hb, _, he⟩ | ⟨b, hb, _, he⟩
  · rw [he]
    exact h
  · rw [he]
    obtain rfl := record?_serial s n b hb
    have hlane : (s.leaveQueue l b.serial).startCheck l b = ((s.leaveQueue l b.serial).modRecord b.serial fun r =>
        { r with stage := .checking, location := .lane l, verdicts := Vector.replicate 16 .unread }).modLane l fun x =>
          { x with
            ctl := { x.ctl with state := .checking }
            checker := { x.checker with
              checkTimer :=
                some (after s.clock (((s.leaveQueue l b.serial).recipe b.slot).timingD.inspectTimeout * 1000))
              paceTimer := none
              ready := true } } := by cases l <;> rfl
    rw [hlane]
    refine hmoving.enterLane (fun _ hr => by exact hr) (fun r _ => ⟨rfl, nofun⟩) rfl (by simp) (by simp) rfl ?_
    refine Lane.Quiet.checking (x := (s.leaveQueue l b.serial).lane l) ?_ ?_ rfl ?_ rfl
    · rw [State.leaveQueue, State.modCtl, modLane_lane]
      exact { hquiet with }
    · simpa [State.leaveQueue] using hgap
    · simpa [State.leaveQueue] using hquiet.eject
  · rw [he]
    have hletGo : (s.leaveQueue l n).letGo l = s.leaveQueue l n := by
      refine letGo_eq_self ?_ ?_ ?_ ?_
      · simpa [State.leaveQueue] using h.exit_none (by simp [hx])
      · simpa [State.leaveQueue] using hgap
      all_goals simp [State.leaveQueue, hx]
    refine State.Leaving.laneHold (.addReason ?_) fun c hc => ?_
    · rwa [State.Leaving, hletGo]
    · obtain ⟨d, hd, hdc⟩ := addReason_stage _ _ hc
      have hsame : (s.leaveQueue l n).record? n = s.record? n := by cases l <;> rfl
      rw [← hdc]
      exact hstage d (hsame ▸ hd)

/-- R62, R82: the BOARD slot's record served; `s` with the slot emptied is in order. -/
theorem serveArrived (h : (s.modStation l fun st => { st with boardSlot := none }).PlacedBut p)
    (hc : (s.lane l).station.boardSlot ≠ some .cleared) : (s.serveArrived l).PlacedBut p := by
  unfold State.serveArrived
  cases hslot : (s.lane l).station.boardSlot with
  | none =>
    have hsame : (s.modStation l fun st => { st with boardSlot := none }) = s := by
      rw [← hslot]
      cases l <;> rfl
    rwa [hsame] at h
  | some report =>
    cases report with
    | cleared => exact absurd hslot hc
    | arrived n =>
      dsimp only
      have hback : ((s.modStation l fun st => { st with boardSlot := none }).modStation l fun st =>
          { st with boardSlot := some (.arrived n) }) = s := by
        rw [← hslot]
        cases l <;> rfl
      split
      · exact .takeArrived h (by simpa using ‹_›)
      · exact .raise h
      · rename_i hi ho
        rw [← hback]
        refine .modStation (fun hs => { hs with rest := fun hx => ?_, report := nofun }) h
        simp only [modStation_ctl] at hx
        exact (hx.elim ho hi).elim

/-- R60, R62: a lane without a board enters IDLE, or OFF. -/
theorem enterIdle (h : (s.setLaneState l .fault).PlacedBut p) : (s.enterIdle l).PlacedBut p := by
  have hs := h.lanes l
  refine .serveArrived ?_ ?_
  · have hcomm : ((s.modCtl l fun c => { c with
          state := if c.disablePending then .off else .idle
          disablePending := false
          ejectSubject := none }).modStation l fun st => { st with boardSlot := none }) =
        ((s.setLaneState l .fault).modStation l fun st => { st with boardSlot := none }).modCtl l fun c => { c with
          state := if c.disablePending then .off else .idle
          disablePending := false
          ejectSubject := none } := by cases l <;> rfl
    rw [hcomm]
    refine .setState rfl ?_ ?_ ?_ (fun hl => ?_)
      (.modStation (fun hl => { hl with rest := by simp, report := nofun }) h)
    · split <;> simp [LaneState.holdsBoard]
    · split <;> simp
    · split <;> simp
    · have hq := hl.quiet (by simp) (by simp) (hl.closed (by simp))
      refine hq.rest (hl.gap_none (by simp)) ?_ hq.eject rfl (by simp)
      split
      · exact .inl rfl
      · exact .inr rfl
  · simpa using hs.report

end State.PlacedBut
end Sys2Proof.Machine
end

section
/-!
Metering, the path and the valve sequencer keep every board in its place; a waiting START is served last.
-/

namespace Sys2Proof.Machine

open Sys2Proof

variable {s t u : State} {l : LaneId} {n : Serial} {b : BoardRecord} {p : LaneId → Prop}

/-! ### What metering and the path's events leave of a lane -/

/-- The path, the Station Port and the lane state of lane `l` are those of `s`. -/
structure State.RunsAs (s t : State) (l : LaneId) : Prop where
  path : (t.lane l).path = (s.lane l).path
  station : (t.lane l).station = (s.lane l).station
  state : (t.lane l).ctl.state = (s.lane l).ctl.state

namespace State.RunsAs

theorem refl (s : State) (l : LaneId) : s.RunsAs s l := ⟨rfl, rfl, rfl⟩

theorem trans (h : s.RunsAs t l) (g : t.RunsAs u l) : s.RunsAs u l :=
  ⟨g.path.trans h.path, g.station.trans h.station, g.state.trans h.state⟩

theorem raise {k : EventKind} {x : Option LaneId} {c : Nat} : s.RunsAs (raise k x n c s) l :=
  ⟨by simp, by simp, by simp⟩

theorem modRecord {f : BoardRecord → BoardRecord} : s.RunsAs (s.modRecord n f) l := ⟨by simp, by simp, by simp⟩

theorem countDeviation : s.RunsAs (s.countDeviation l) l := by
  unfold State.countDeviation
  dsimp only
  split
  · exact ⟨by simp, by simp, by simp⟩
  · exact ⟨by simp, by simp, by simp⟩

theorem handOver {seg : Segment} {k c : Nat} : s.RunsAs (s.handOver l seg k c) l := by
  unfold State.handOver
  split
  · exact .refl s l
  · dsimp only
    split
    · exact (modRecord.trans modRecord).trans countDeviation
    · exact modRecord

theorem handOverAll {segs : List Segment} : s.RunsAs (s.handOverAll l segs) l := by
  induction segs generalizing s with
  | nil => exact .refl s l
  | cons seg rest ih => exact handOver.trans ih

theorem raiseQueueEmpty : s.RunsAs (raiseQueueEmpty l s) l := by
  unfold Machine.raiseQueueEmpty
  dsimp only
  split
  · exact raise
  · refine .trans ?_ raise
    cases l <;> exact ⟨rfl, rfl, rfl⟩

theorem judgeFall {before : Nat} : s.RunsAs (s.judgeFall l before) l := by
  have hlow : s.RunsAs (if (s.lane l).ctl.settings.lowWater ≤ before ∧ (s.lane l).path.unexecuted <
      (s.lane l).ctl.settings.lowWater then Machine.raise (queueLowKind l) (some l) (s.boardSerial l)
        (s.lane l).path.unexecuted s else s) l := by
    split
    · exact raise
    · exact .refl s l
  unfold State.judgeFall
  dsimp only
  split
  · split
    · exact hlow.trans raiseQueueEmpty
    · exact hlow
  · exact .refl s l

end State.RunsAs

namespace State.PlacedBut

/-! ### Metering (R69, R124 to R133) -/

theorem countDeviation (h : s.PlacedBut p) : (s.countDeviation l).PlacedBut p :=
  .ite (fun _ => .raise (.modCtl rfl rfl (fun hs => { hs with }) h)) fun _ => .modCtl rfl rfl (fun hs => { hs with }) h

theorem handOver {seg : Segment} {k c : Nat} (h : s.PlacedBut p) : (s.handOver l seg k c).PlacedBut p := by
  unfold State.handOver
  split
  · exact h
  · exact .ite (fun _ => .countDeviation (.addReason (.modRecord (fun _ => ⟨rfl, rfl⟩) h)))
      fun _ => .modRecord (fun _ => ⟨rfl, rfl⟩) h

theorem handOverAll {segs : List Segment} (h : s.PlacedBut p) : (s.handOverAll l segs).PlacedBut p := by
  induction segs generalizing s with
  | nil => exact h
  | cons seg rest ih => exact ih h.handOver

theorem dripOn_place (limit : Nat) (b : BoardRecord) :
    (dripOn limit b).serial = b.serial ∧ (dripOn limit b).place = b.place := by
  unfold dripOn
  dsimp only
  split <;> exact ⟨rfl, rfl⟩

theorem flowPulse (h : s.PlacedBut p) : (s.flowPulse l).PlacedBut p := by
  have hdrip : (s.boardDrip l).PlacedBut p := by
    unfold State.boardDrip
    split
    · exact h
    · exact .modRecord (dripOn_place _) h
  unfold State.flowPulse
  split
  · exact .modMeter h
  · exact .modMeter h
  · exact hdrip
  · exact hdrip
  · exact hdrip
  · exact hdrip
  · exact .modMeter h

/-! ### The path (R110, R111) -/

theorem raiseQueueEmpty (h : s.PlacedBut p) : (raiseQueueEmpty l s).PlacedBut p :=
  .ite (fun _ => .raise h) fun _ => .raise (.setFreeCount h)

theorem judgeFall {before : Nat} (h : s.PlacedBut p) : (s.judgeFall l before).PlacedBut p := by
  have hlow : ∀ c : Prop, [Decidable c] → (if c then Machine.raise (queueLowKind l) (some l) (s.boardSerial l)
      (s.lane l).path.unexecuted s else s).PlacedBut p := fun c _ => .ite (fun _ => .raise h) fun _ => h
  exact .ite (fun _ => .ite (fun _ => .raiseQueueEmpty (hlow _)) fun _ => hlow _) fun _ => h

/-! ### Spray end (R119, R134 to R141) -/

theorem judgeFilm_place (specs : List AreaSpec) (b : BoardRecord) : (judgeFilm specs b).place = b.place := by
  unfold judgeFilm
  dsimp only
  split <;> split <;> rfl

/-- R136, R141: a lane that runs nothing waits at the gate with its board. -/
theorem enterExitWait (h : s.PlacedBut p) (hat : s.roster.places.At b.serial (.lane l))
    (ht : (s.lane l).ctl.state ≠ .transfer) (hq : (s.lane l).Quiet (p l)) (hg : (s.lane l).path.gapTimer = none) :
    (s.enterExitWait l b).PlacedBut p := by
  have hplace (c : BoardRecord) (hc : s.record? b.serial = some c) :
      BoardRecord.place { c with stage := .flashing } = c.place := by
    simp [BoardRecord.place, h.stage_ne_held hat nofun hc]
  unfold State.enterExitWait
  constructor
  case distinct =>
    simp only [setLaneState_records]
    exact distinct_modRecord s _ (fun _ hr => by exact hr) h.distinct
  case agrees =>
    rw [roster_setExit, roster_setLaneState, roster_modRecord_same s _ (fun _ hr => by exact hr) hplace]
    have hserial : (s.laneWaiting b).serial = b.serial := rfl
    simpa [hserial] using h.agrees.enterExit hat ht
  case lanes =>
    intro m
    have hlane : State.lane { (s.modRecord b.serial fun r => { r with stage := .flashing }).setLaneState l .exitWait with
        gate := ((s.modRecord b.serial fun r => { r with stage := .flashing }).setLaneState l .exitWait).gate.setExit l
          (some (s.laneWaiting b)) } m = (s.setLaneState l .exitWait).lane m := by
      cases l <;> cases m <;> rfl
    rw [hlane]
    exact lanes_modLane (fun m _ => h.lanes m)
      (Lane.Quiet.sound { hq with } hg (by simp) (by simp) (by simp) (by simp)) m

/-- R134 to R136: the board of a lane that runs nothing more is judged: it is held, or waits at the gate. -/
theorem judgePass (h : s.PlacedBut p) (hb : s.board l = some b) (hx : (s.lane l).ctl.state = .spraying)
    (hc : (s.lane l).path.seq = .closed) (hg : (s.lane l).path.gapTimer = none) :
    (s.judgePass l b.serial).PlacedBut p := by
  have hr := h.record?_of_board hb
  have hserial : (judgeFilm (s.recipe b.slot).areasD b).serial = b.serial := (judgeFilm_within _ b).1
  have hplace (c : BoardRecord) (hc : s.record? b.serial = some c) :
      (judgeFilm (s.recipe b.slot).areasD b).place = c.place := by
    rw [hr, Option.some.injEq] at hc
    rw [judgeFilm_place, hc]
  have hjudged : (s.modRecord b.serial fun _ => judgeFilm (s.recipe b.slot).areasD b).PlacedBut p :=
    .modRecordOf (fun _ _ => hserial) hplace h
  have hat : (s.modRecord b.serial fun _ => judgeFilm (s.recipe b.slot).areasD b).roster.places.At b.serial
      (.lane l) := by
    rw [roster_modRecord_same s _ (fun _ _ => hserial) hplace]
    exact h.at_of_board hb
  unfold State.judgePass
  rw [hr]
  refine .ite (fun _ => ?_) fun _ => ?_
  · refine (State.Leaving.modRecord (fun _ _ => hserial)
      (h.leaving hb (by simp [hx]) (by simp [hx]) hc)).laneHold fun c hc => ?_
    exact hjudged.stage_ne_held hat nofun hc
  · exact hjudged.enterExitWait (by rw [hserial]; exact hat) (by simp [hx])
      (by simpa using (h.lanes l).quiet (by simp [hx]) (by simp [hx]) hc) (by simpa using hg)

end State.PlacedBut

theorem laneHold_seq (s : State) (l : LaneId) (n : Serial) :
    ((s.laneHold l n).lane l).path.seq = (s.lane l).path.seq := by
  have hletGo : ((s.letGo l).lane l).path.seq = (s.lane l).path.seq := by simp [letGo_lane]
  rcases laneHold_cases s l n with ⟨_, he⟩ | ⟨b, _, _, he⟩ | ⟨b, _, _, he⟩
  · rw [he]
  · simpa [he, State.enterEjecting] using hletGo
  · simpa [he] using hletGo

theorem judgePass_seq (s : State) (l : LaneId) (n : Serial) :
    ((s.judgePass l n).lane l).path.seq = (s.lane l).path.seq := by
  unfold State.judgePass
  split
  · rfl
  · dsimp only
    split
    · rw [laneHold_seq, modRecord_lane]
    · have hlane (t : State) (b : BoardRecord) : ((t.enterExitWait l b).lane l).path.seq = (t.lane l).path.seq := by
        cases l <;> rfl
      rw [hlane, modRecord_lane]

theorem PathExec.Numbered.emptied (pe : PathExec) : pe.emptied.Numbered :=
  ⟨by simp [PathExec.emptied], fun _ => ⟨rfl, rfl⟩, rfl, by simp [PathExec.emptied]⟩

/-- R119: a path settled with its sequencer CLOSED. -/
theorem Lane.Sound.settled {x : Lane} {w : Prop} (h : x.Sound w) (hc : x.path.seq = .closed) :
    Lane.Sound { x with path := x.path.settled } w := by
  unfold PathExec.settled
  split
  · exact { h with path := { h.path with }, running := fun hn => absurd hc hn }
  · exact { h with path := .emptied _, running := fun hn => absurd hc hn }

namespace State.PlacedBut

theorem sprayEnd (h : s.PlacedBut p) (hx : (s.lane l).ctl.state = .spraying) (hc : (s.lane l).path.seq = .closed) :
    (s.sprayEnd l).PlacedBut p := by
  obtain ⟨b, hb⟩ := h.board_isSome (l := l) (by simp [hx, LaneState.holdsBoard])
  unfold State.sprayEnd
  rw [hb]
  dsimp only
  have hstopped : (s.modPath l fun pe => { pe with seq := .closed, gapTimer := none }).PlacedBut p :=
    .modPath (fun hs => { hs with
      path := { hs.path with }
      running := fun hn => absurd rfl hn
      gap := nofun
      start := fun hw => by simpa [hc] using hs.start hw }) h
  have htimed := State.PlacedBut.modRecord (n := b.serial) (f := fun r => { r with sprayEnd := some ⟨s.clock, false⟩ })
    (fun _ => ⟨rfl, rfl⟩) hstopped
  have hrecord : ((s.modPath l fun pe => { pe with seq := .closed, gapTimer := none }).modRecord b.serial fun r =>
      { r with sprayEnd := some ⟨s.clock, false⟩ }).record? b.serial =
        some { b with sprayEnd := some ⟨s.clock, false⟩ } := by
    have hsame : (s.modPath l fun pe => { pe with seq := .closed, gapTimer := none }).record? b.serial =
        some b := by simpa [State.record?] using h.record?_of_board hb
    rw [record?_modRecord _ _ fun _ hr => by exact hr, if_pos rfl, hsame]
    rfl
  have hboard := htimed.board_eq hrecord (board_location s l b hb)
  have hjudged := htimed.judgePass hboard (by simpa using hx) (by simp) (by simp)
  refine .reevaluateExit (.modPath (fun hs => hs.settled ?_) hjudged)
  rw [judgePass_seq]
  simp

/-- R117 step 4, R118, R119: what follows an outcome. -/
theorem afterOutcome (h : s.PlacedBut p) (hx : (s.lane l).ctl.state = .spraying) (hc : (s.lane l).path.seq = .closed) :
    (s.afterOutcome l).PlacedBut p := by
  refine .ite (fun _ => h.sprayEnd hx hc) fun _ => ?_
  unfold State.startGap
  exact .modPath (fun hs => { hs with path := { hs.path with }, gap := fun _ => ⟨hx, hc⟩ }) h

theorem judgeOutcome {before : Nat} (h : s.PlacedBut p) (hx : (s.lane l).ctl.state = .spraying)
    (hc : (s.lane l).path.seq = .closed) : ((s.judgeFall l before).afterOutcome l).PlacedBut p := by
  have hfall := State.RunsAs.judgeFall (s := s) (l := l) (before := before)
  exact h.judgeFall.afterOutcome (hfall.state.trans hx) (by rw [hfall.path, hc])

/-- The cursor moves at a CLOSED sequencer. -/
theorem moveCursor {f : Nat → Nat} (h : s.PlacedBut p) (hc : (s.lane l).path.seq = .closed) :
    (s.modPath l fun pe => { pe with cursor := f pe.cursor }).PlacedBut p :=
  .modPath (fun hl => { hl with path := { hl.path with }, running := fun hn => absurd hc hn }) h

/-! ### The valve sequencer (R115 to R117) -/

/-- R117: the executing segment of a SPRAYING lane completes; a waiting START is served after it. -/
theorem finishSegment (h : s.PlacedBut p) (hx : (s.lane l).ctl.state = .spraying)
    (hs : p l ∨ (s.lane l).station.startSlot = none) : (s.finishSegment l).PlacedBut p := by
  have hdone (t : State) (ht : t.PlacedBut p) (hruns : s.RunsAs t l) (before : Nat) :
      (((t.modPath l fun pe => { pe with
        seq := .closed, executing := none, phaseTimer := none, cursor := pe.cursor + 1 }).judgeFall l
          before).afterOutcome l).PlacedBut p := by
    refine .judgeOutcome (.modPath (fun hl => { hl with
      path := { hl.path with }
      running := fun hn => absurd rfl hn
      gap := fun hg => ⟨(hl.gap hg).1, rfl⟩
      start := fun hw => by simp [hruns.station, hs.resolve_left hw] }) ht) ?_ ?_
    · rw [modPath_ctl, hruns.state, hx]
    · rw [modPath_path]
  unfold State.finishSegment
  dsimp only
  split
  · exact hdone _ h.handOver .handOver _
  · exact hdone _ h (.refl s l) _

/-- R115, R116: the sequencer leaves OPEN or OPEN_DELAY for CLOSING. -/
theorem enterClosing {seg : Segment} {k : Nat} (h : s.PlacedBut p) (hr : (s.lane l).path.seq ≠ .closed)
    (hs : p l ∨ (s.lane l).station.startSlot = none) : (s.enterClosing l seg k).PlacedBut p := by
  have hrun := (h.lanes l).running hr
  have hclosing (t : Option Time) : (s.modPath l fun pe =>
      { pe with seq := .closing, openTime := k, phaseTimer := t }).PlacedBut p :=
    .modPath (fun hl => { hl with
      path := { hl.path with }
      running := fun _ => hrun
      gap := fun hg => absurd (hl.gap hg).2 hr
      start := fun _ _ => nofun }) h
  exact .ite (fun _ => (hclosing _).finishSegment (by simpa using hrun.1) (by simpa using hs)) fun _ => hclosing _

theorem coatBoard (h : s.PlacedBut p) : (s.coatBoard l).PlacedBut p := by
  unfold State.coatBoard
  split
  · exact h
  · exact .modRecord (fun _ => ⟨rfl, rfl⟩) h

/-- R115: OPEN_DELAY ends. -/
theorem endOpenDelay {seg : Segment} (h : s.PlacedBut p) (hr : (s.lane l).path.seq ≠ .closed)
    (hs : p l ∨ (s.lane l).station.startSlot = none) : (s.endOpenDelay l seg).PlacedBut p := by
  have hrun := (h.lanes l).running hr
  refine .ite (fun _ => ?_) fun _ => ?_
  · refine .finishSegment (.modPath (fun hl => { hl with path := { hl.path with } }) h) (by simpa using hrun.1)
      (by simpa using hs)
  · exact .coatBoard (.modPath (fun hl => { hl with
      path := { hl.path with }
      running := fun _ => hrun
      gap := fun hg => absurd (hl.gap hg).2 hr
      start := fun _ _ => nofun }) h)

/-- R113, R115: the sequencer starts the segment at the cursor. -/
theorem startSegment {seg : Segment} (h : s.PlacedBut p) (hx : (s.lane l).ctl.state = .spraying)
    (hn : seg.number = (s.lane l).path.cursor) (h1 : 1 ≤ seg.number) (h2 : seg.number ≤ (s.lane l).path.queue.length)
    (hs : p l ∨ (s.lane l).station.startSlot = none) : (s.startSegment l seg).PlacedBut p := by
  have hstarted (t : Option Time) : ((s.modMeter l fun m => { m with segPulses := 0 }).modPath l fun pe => { pe with
      seq := .openDelay, executing := some seg.number, phaseTimer := t, gapTimer := none,
      openTime := 0 }).PlacedBut p :=
    .modPath (fun hl => { hl with
      path := { hl.path with }
      running := fun _ => ⟨by simpa using hx, by simp [hn], by simpa [← hn] using h1, by simpa [← hn] using h2⟩
      gap := nofun
      start := fun _ _ => nofun }) (.modMeter h)
  exact .ite (fun _ => (hstarted _).endOpenDelay (by simp) (by simpa using hs)) fun _ => hstarted _

/-! ### Start strobes (R79, R113) -/

theorem enterSpraying (h : s.PlacedBut p) (hb : s.board l = some b) :
    (s.enterSpraying l b.serial).PlacedBut p := by
  refine .ite (fun hx => ?_) fun _ => h
  have hplace (c : BoardRecord) (hc : s.record? b.serial = some c) :
      BoardRecord.place { c with stage := .spraying } = c.place := by
    simp [BoardRecord.place, h.stage_ne_held (h.at_of_board hb) nofun hc]
  refine .setState rfl ?_ ?_ ?_ (fun hl => ?_) (.modRecordOf (fun _ hr => by exact hr) hplace h)
  · simp [hx, LaneState.holdsBoard]
  · simp [hx]
  · simp [hx]
  · rw [modRecord_lane] at hl ⊢
    exact Lane.Quiet.sound { hl.quiet (by simp [hx]) (by simp [hx]) (hl.closed (by simp [hx])) with }
      (hl.gap_none (by simp [hx])) (by simp) (by simp) (by simp) (by simp)

theorem skipTo {k : Nat} (h : s.PlacedBut p) (hc : (s.lane l).path.seq = .closed) : (s.skipTo l n k).PlacedBut p :=
  .ite (fun _ => .addReason (.moveCursor (f := fun _ => k) h.handOverAll (by rw [State.RunsAs.handOverAll.path, hc])))
    fun _ => h

end State.PlacedBut
end Sys2Proof.Machine
end

section
/-!
Strobes, the check, the Station Ports and the timers of a lane keep every board in its place.
-/

namespace Sys2Proof.Machine

open Sys2Proof

variable {s t u : State} {l : LaneId} {n : Serial} {b : BoardRecord} {p : LaneId → Prop}

/-- R102: a loaded segment's number is its place in the queue. -/
theorem PathExec.Numbered.bounds {pe : PathExec} (h : pe.Numbered) {seg : Segment} (hs : seg ∈ pe.queue) :
    1 ≤ seg.number ∧ seg.number ≤ pe.queue.length := by
  have hn : seg.number ∈ pe.queue.map (·.number) := List.mem_map_of_mem hs
  rw [h.numbers] at hn
  simp only [List.mem_map, List.mem_range] at hn
  obtain ⟨i, hi, he⟩ := hn
  omega

theorem segment?_some {pe : PathExec} {k : Nat} {seg : Segment} (h : pe.segment? k = some seg) :
    seg ∈ pe.queue ∧ seg.number = k :=
  ⟨List.mem_of_find?_eq_some h, by simpa using List.find?_some h⟩

/-- R115: a running sequencer has its segment loaded. -/
theorem PathExec.Numbered.executing {pe : PathExec} (h : pe.Numbered) (hx : pe.executing = some pe.cursor)
    (h1 : 1 ≤ pe.cursor) (h2 : pe.cursor ≤ pe.queue.length) : ∃ seg, pe.executingSegment = some seg := by
  have hmem : pe.cursor ∈ pe.queue.map (·.number) := by
    rw [h.numbers]
    exact List.mem_map.2 ⟨pe.cursor - 1, List.mem_range.2 (by omega), by omega⟩
  obtain ⟨seg, hs, hn⟩ := List.mem_map.1 hmem
  simpa [PathExec.executingSegment, hx, PathExec.segment?] using
    Option.isSome_iff_exists.1 (List.find?_isSome.2 ⟨seg, hs, by simpa using hn⟩)

/-- R113: the first accepted strobe leaves the path and the Station Port. -/
theorem enterSpraying_lane (s : State) (l : LaneId) (n : Serial) :
    ((s.enterSpraying l n).lane l).path = (s.lane l).path ∧
      ((s.enterSpraying l n).lane l).station = (s.lane l).station ∧
      (((s.lane l).ctl.state = .armed ∨ (s.lane l).ctl.state = .spraying) →
        ((s.enterSpraying l n).lane l).ctl.state = .spraying) := by
  unfold State.enterSpraying
  split
  · exact ⟨by simp, by simp, fun _ => by simp⟩
  · exact ⟨rfl, rfl, fun h => h.resolve_left ‹_›⟩

/-- R113: skipping moves the cursor to the strobe's segment. -/
theorem skipTo_lane (s : State) (l : LaneId) (n : Serial) (k : Nat) :
    ((s.skipTo l n k).lane l).path = { (s.lane l).path with cursor := max (s.lane l).path.cursor k } ∧
      ((s.skipTo l n k).lane l).station = (s.lane l).station ∧
      ((s.skipTo l n k).lane l).ctl.state = (s.lane l).ctl.state := by
  have hruns (segs : List Segment) := State.RunsAs.handOverAll (s := s) (l := l) (segs := segs)
  unfold State.skipTo
  dsimp only
  split
  · have hmax : max (s.lane l).path.cursor k = k := by omega
    exact ⟨by simp [(hruns _).path, hmax], by simp [(hruns _).station], by simp [(hruns _).state]⟩
  · have hmax : max (s.lane l).path.cursor k = (s.lane l).path.cursor := by omega
    exact ⟨by rw [hmax], rfl, rfl⟩

namespace State.PlacedBut

/-- R113: a strobe at a CLOSED sequencer, with no START behind it or one that is served in the same event. -/
theorem takeStrobe {k : Nat} (h : s.PlacedBut p)
    (hx : (s.lane l).ctl.state = .armed ∨ (s.lane l).ctl.state = .spraying) (hc : (s.lane l).path.seq = .closed)
    (hs : p l ∨ (s.lane l).station.startSlot = none) : (s.takeStrobe l k).PlacedBut p := by
  unfold State.takeStrobe
  cases hb : s.board l with
  | none => exact h
  | some b =>
    obtain ⟨hpath, hstation, hspraying⟩ := enterSpraying_lane s l b.serial
    obtain ⟨kpath, kstation, kstate⟩ := skipTo_lane (s.enterSpraying l b.serial) l b.serial k
    have hat : ((s.enterSpraying l b.serial).skipTo l b.serial k).PlacedBut p :=
      (h.enterSpraying hb).skipTo (by rw [hpath, hc])
    dsimp only
    generalize hat_eq : (s.enterSpraying l b.serial).skipTo l b.serial k = u at *
    have ustate : (u.lane l).ctl.state = .spraying := by rw [kstate, hspraying hx]
    have useq : (u.lane l).path.seq = .closed := by rw [kpath, hpath, hc]
    refine .ite (fun _ => h.raise) fun hk => ?_
    split
    · exact .judgeOutcome (.addReason (hat.moveCursor (f := fun _ => k + 1) useq)) (by simpa using ustate)
        (by simpa using useq)
    · rename_i seg hseg
      refine .ite (fun _ => ?_) fun _ => ?_
      · have hruns := State.RunsAs.handOver (s := u) (l := l) (seg := seg) (k := 0) (c := 0)
        exact .judgeOutcome (hat.handOver.moveCursor (f := fun _ => k + 1) (by rw [hruns.path, useq]))
          (by rw [modPath_ctl, hruns.state, ustate]) (by rw [modPath_path, hruns.path, useq])
      obtain ⟨hmem, hnumber⟩ := segment?_some hseg
      obtain ⟨h1, h2⟩ := (h.lanes l).path.bounds hmem
      have hfall := State.RunsAs.judgeFall (s := u) (l := l) (before := (s.lane l).path.unexecuted)
      have hcursor : max (s.lane l).path.cursor k = k := by omega
      exact hat.judgeFall.startSegment (by rw [hfall.state, ustate])
        (by rw [hfall.path, kpath, hpath, hnumber, hcursor]) h1 (by rwa [hfall.path, kpath, hpath])
        (by rwa [hfall.station, kstation, hstation])

/-- A START that is served, or that waits for a running sequencer, waits for nothing more. -/
theorem served (h : s.PlacedBut (· = l))
    (hs : (s.lane l).station.startSlot.isSome = true → (s.lane l).path.seq ≠ .closed) :
    s.PlacedBut fun _ => False where
  distinct := h.distinct
  agrees := h.agrees
  lanes := fun m => by
    by_cases hm : m = l
    · subst hm
      exact { h.lanes m with start := fun _ => hs }
    · exact { h.lanes m with start := fun _ => (h.lanes m).start hm }

/-- R79, R117 step 5: the waiting START is served. -/
theorem serveStart (h : s.PlacedBut (· = l)) : (s.serveStart l).PlacedBut fun _ => False := by
  unfold State.serveStart
  cases hk : (s.lane l).station.startSlot with
  | none => exact h.served (by simp [hk])
  | some k =>
    have hfreed : (s.modStation l fun st => { st with startSlot := none }).PlacedBut fun _ => False :=
      State.PlacedBut.served (.modStation (fun hl => { hl with start := fun hn => absurd rfl hn }) h) (by simp)
    have hserved (hx : (s.lane l).ctl.state = .armed ∨ (s.lane l).ctl.state = .spraying) :
        (if (s.lane l).path.seq = .closed then (s.modStation l fun st => { st with startSlot := none }).takeStrobe l k
          else s).PlacedBut fun _ => False :=
      .ite (fun hc => hfreed.takeStrobe (by simpa using hx) (by simpa using hc) (.inr (by simp)))
        fun hc => h.served fun _ => hc
    dsimp only
    split
    · exact hserved (.inl ‹_›)
    · exact hserved (.inr ‹_›)
    · exact .raise hfreed

/-- R80, R116: an END that comes to a lane whose END slot is empty is consumed. -/
theorem serveEnd {k : Nat} (h : s.PlacedBut fun _ => False) :
    ((s.modStation l fun st => { st with endSlot := some k }).serveEnd l).PlacedBut fun _ => False := by
  have hfreed : ((s.modStation l fun st => { st with endSlot := some k }).modStation l fun st =>
      { st with endSlot := none }) = s := by
    rw [← (h.lanes l).ends]
    cases l <;> rfl
  have hcut (x : SeqState) (hx : (s.lane l).path.seq = x) (hn : x ≠ .closed) (seg : Segment) (c : Nat) :
      ((s.enterClosing l seg c).serveStart l).PlacedBut fun _ => False :=
    .serveStart ((h.weaken fun _ => False.elim).enterClosing (by rw [hx]; exact hn) (.inl rfl))
  unfold State.serveEnd
  simp only [modStation_station, hfreed, modStation_path, modStation_ctl]
  refine .ite (fun _ => ?_) fun _ => h
  split
  · exact hcut .openDelay ‹_› nofun _ _
  · exact hcut .opened ‹_› nofun _ _
  · exact h

/-! ### The sequencer's timers and the gap timer (R115 to R118) -/

theorem gapExpired (h : s.PlacedBut p) (hg : (s.lane l).path.gapTimer.isSome = true) :
    (s.gapExpired l).PlacedBut p := by
  obtain ⟨hx, hc⟩ := (h.lanes l).gap hg
  have hstopped : (s.modPath l fun pe => { pe with gapTimer := none }).PlacedBut p :=
    .modPath (fun hl => { hl with path := { hl.path with }, gap := nofun }) h
  unfold State.gapExpired
  dsimp only
  split
  · have hruns (segs : List Segment) := State.RunsAs.handOverAll (l := l) (segs := segs)
      (s := s.modPath l fun pe => { pe with gapTimer := none })
    refine .sprayEnd (.addReason (.modPath (fun hl => { hl with
      path := { hl.path with }
      running := fun hn => absurd ?_ hn }) hstopped.handOverAll)) ?_ ?_
    · simp [(hruns _).path, hc]
    · simp [(hruns _).state, hx]
    · simp [(hruns _).path, hc]
  · exact hstopped

end State.PlacedBut
end Sys2Proof.Machine
end

section
/-!
The check, the Station Ports and the lane commands keep every board in its place.
-/

namespace Sys2Proof.Machine

open Sys2Proof

variable {s t u : State} {l : LaneId} {n : Serial} {b : BoardRecord} {p : LaneId → Prop}

/-! ### The check (R86 to R95, R112) -/

/-- The check of lane `l` has ended: its checker is stopped, and ARMED, which needs nothing to run, would be sound. -/
def State.CheckEnded (s : State) (l : LaneId) (p : LaneId → Prop) : Prop :=
  (s.lane l).ctl.state = .checking ∧ (s.setLaneState l .armed).PlacedBut p

namespace State.CheckEnded

theorem quiet (h : s.CheckEnded l p) : (s.lane l).Quiet (p l) := by
  have hs := h.2.lanes l
  have hlane : (s.setLaneState l .armed).lane l = { s.lane l with ctl := { (s.lane l).ctl with state := .armed } } := by
    cases l <;> rfl
  have hq := hs.quiet (by simp) (by simp) (hs.closed (by simp))
  rw [hlane] at hq
  exact { hq with }

/-- R64, R94: the board leaves a lane whose check has ended. -/
theorem leaving (h : s.CheckEnded l p) (hb : s.board l = some b) : s.Leaving l b.serial p := by
  obtain ⟨hx, hplaced⟩ := h
  have hagrees : s.roster.Agrees := by
    have hback := hplaced.agrees.changeState (l := l) (x := .checking)
      (by simp [Roster.setState, LaneState.holdsBoard]) (by simp [Roster.setState]) (by simp [Roster.setState])
    have hstate : s.roster.state l = .checking := hx
    simpa [← hstate] using hback
  refine .of_board (by simpa using hplaced.distinct) hagrees (fun m hm => ?_) (quiet ⟨hx, hplaced⟩) hb fun hg => ?_
  · rw [← setLaneState_lane_ne s l m .armed hm]
    exact hplaced.lanes m
  · exact absurd (hx.symm.trans ((hagrees.grant l).1 hg)) nofun

theorem stage_ne_held (h : s.CheckEnded l p) (hb : s.board l = some b) {c : BoardRecord}
    (hc : s.record? b.serial = some c) : c.stage ≠ .held := by
  have hb' : (s.setLaneState l .armed).board l = some b := by simpa [State.board] using hb
  exact h.2.stage_ne_held (h.2.at_of_board hb') nofun (by simpa [State.record?] using hc)

/-- R95, R112: the lane is ARMED. -/
theorem enterArmed (h : s.CheckEnded l p) (hb : s.board l = some b) : (s.enterArmed l b.serial).PlacedBut p := by
  have hplace (c : BoardRecord) (hc : (s.setLaneState l .armed).record? b.serial = some c) :
      BoardRecord.place { c with stage := .armed } = c.place := by
    simp [BoardRecord.place, h.stage_ne_held hb (by simpa [State.record?] using hc)]
  have hcomm : s.enterArmed l b.serial = ((s.setLaneState l .armed).modRecord b.serial fun r =>
      { r with stage := .armed }).modPath l fun pe => { pe with cursor := 1, seq := .closed, gapTimer := none } := by
    cases l <;> rfl
  rw [hcomm]
  exact .modPath (fun hl => { hl with
    path := { hl.path with }
    running := fun hn => absurd rfl hn
    gap := nofun
    start := fun hw hn => absurd (hl.closed (by simp)) (hl.start hw hn) })
    (.modRecordOf (fun _ hr => by exact hr) hplace h.2)

theorem pathCheck (h : s.CheckEnded l p) (hb : s.board l = some b) : (s.pathCheck l b).PlacedBut p := by
  refine .ite (fun _ => (h.leaving hb).addReason.laneHold fun c hc => ?_) fun _ => h.enterArmed hb
  obtain ⟨d, hd, hdc⟩ := addReason_stage _ _ hc
  exact hdc ▸ h.stage_ne_held hb hd

/-- R94, R95: the ruling. -/
theorem ruling (h : s.CheckEnded l p) : (s.ruling l).PlacedBut p := by
  obtain ⟨b, hb⟩ := h.2.board_isSome (l := l) (by simp [LaneState.holdsBoard])
  have hb' : s.board l = some b := by simpa [State.board] using hb
  unfold State.ruling
  rw [hb']
  refine .ite (fun _ => (State.Leaving.modRecord (fun _ hr => by exact hr) (h.leaving hb')).laneHold fun c hc => ?_)
    fun _ => h.pathCheck hb'
  rw [record?_modRecord s _ fun _ hr => by exact hr, if_pos rfl] at hc
  obtain ⟨d, hd, rfl⟩ := Option.map_eq_some_iff.1 hc
  show d.stage ≠ .held
  exact h.stage_ne_held hb' hd

end State.CheckEnded

namespace State.PlacedBut

/-- R92, R93: the check ends. -/
theorem endCheck (h : s.PlacedBut p) (hx : (s.lane l).ctl.state = .checking) : (s.endCheck l).PlacedBut p := by
  refine .ite (fun _ => State.CheckEnded.ruling ⟨by simp [State.discardReadings, hx], ?_⟩) fun hn => absurd hx hn
  have hcomm : ((s.discardReadings l).modChecker l MaskChecker.stopped).setLaneState l .armed = s.modLane l fun x =>
      { x with
        ctl := { x.ctl with state := .armed }
        station := { x.station with inspectQueue := [] }
        checker := MaskChecker.stopped { x.checker with
          lateCount := satAdd 65535 x.checker.lateCount x.station.inspectQueue.length } } := by
    cases l <;> rfl
  rw [hcomm]
  refine .changeLane rfl ?_ ?_ ?_ (fun hl => ?_) h
  · simp [hx, LaneState.holdsBoard]
  · simp [hx]
  · simp [hx]
  · have hclosed := hl.closed (by simp [hx])
    have hgap := hl.gap_none (by simp [hx])
    have heject := hl.eject
    exact ⟨hl.path, by simp [MaskChecker.stopped], by simp [MaskChecker.stopped], by simpa [hx] using heject,
      fun hn => absurd hclosed hn, by simp [hgap], hl.start, hl.ends, by simp, by simp, hl.report⟩

theorem readCheckSlot {rd : Reading} {k : Fin 16} {notice : Bool} (h : s.PlacedBut p) :
    (s.readCheckSlot l b rd k notice).PlacedBut p := by
  have hwritten := State.PlacedBut.modRecord (n := b.serial)
    (f := fun r => { r with verdicts := r.verdicts.set k (combine r.verdicts[k] rd.result) }) (fun _ => ⟨rfl, rfl⟩) h
  exact .ite (fun _ => .raise hwritten) fun _ => hwritten

/-- R88: a reading is taken in CHECKING. -/
theorem takeReading (h : s.PlacedBut p) (hx : (s.lane l).ctl.state = .checking) : (s.takeReading l).PlacedBut p := by
  unfold State.takeReading
  split
  · rename_i rd rest b _ _
    refine .ite (fun _ => ?_) fun _ => h
    have htaken : ((s.modStation l fun st => { st with inspectQueue := rest }).modChecker l fun m =>
        { m with ready := false, paceTimer := some (after s.clock 1) }).PlacedBut p :=
      .modChecker (fun hl => { hl with pace := fun _ => by simpa using hx })
        (.modStation (fun hl => { hl with readings := fun _ => hx }) h)
    dsimp only
    split
    · exact htaken.endCheck (by simpa using hx)
    · exact .modChecker (fun hl => { hl with }) htaken
    · exact htaken.readCheckSlot
  · exact h

theorem paceExpired (h : s.PlacedBut p) : (s.paceExpired l).PlacedBut p :=
  .ite (fun hx => .takeReading (.modChecker (fun hl => { hl with pace := nofun }) h) (by simpa using hx))
    fun _ => .modChecker (fun hl => { hl with pace := nofun }) h

/-- R81: a reading that comes to a queue with room is read in CHECKING and late otherwise. -/
theorem serveInspect {rd : Reading} (h : s.PlacedBut p) :
    ((s.modStation l fun st => { st with inspectQueue := st.inspectQueue ++ [rd] }).serveInspect l).PlacedBut p := by
  refine .ite (fun hx => ?_) fun _ => ?_
  · simp only [modStation_ctl] at hx
    exact .takeReading (.modStation (fun hl => { hl with readings := fun _ => hx }) h) (by simpa using hx)
  · have hlate : (s.modStation l fun st => { st with inspectQueue := st.inspectQueue ++ [rd] }).discardReadings l =
        (s.modStation l fun st => { st with inspectQueue := [] }).modChecker l fun m =>
          { m with lateCount := satAdd 65535 m.lateCount ((s.lane l).station.inspectQueue ++ [rd]).length } := by
      cases l <;> rfl
    rw [hlate]
    exact .modChecker (fun hl => { hl with })
      (.modStation (fun hl => { hl with readings := fun hn => absurd rfl hn }) h)

/-! ### The Station Ports (R75 to R82) -/

theorem setAssembler {slot : StationSlot} {a : Assembler} (h : s.PlacedBut p) :
    (s.modStation l fun st => st.setAssembler slot a).PlacedBut p :=
  .modStation (fun hl => by cases slot <;> exact { hl with }) h

theorem countLoss {slot : StationSlot} (h : s.PlacedBut p) : (s.modStation l fun st => st.countLoss slot).PlacedBut p :=
  .modStation (fun hl => by cases slot <;> exact { hl with }) h

theorem addBoardReason {r : Reason} (h : s.PlacedBut p) : (s.addBoardReason l r).PlacedBut p := by
  unfold State.addBoardReason
  split
  · exact h
  · exact .addReason h

theorem loseRecord {slot : StationSlot} (h : s.PlacedBut p) : (s.loseRecord l slot n).PlacedBut p := by
  cases slot with
  | startSlot => exact .ite (fun _ => .addBoardReason (.countLoss h)) fun _ => .countLoss (slot := .startSlot) h
  | endSlot => exact .countLoss (slot := .endSlot) h
  | inspectSlot => exact .ite (fun _ => .addBoardReason (.countLoss h)) fun _ => .countLoss (slot := .inspectSlot) h
  | boardSlot => exact .raise (.countLoss (slot := .boardSlot) h)

/-- R66: an EJECTING lane, its timer cancelled, has let go of everything. -/
theorem vacate (h : s.PlacedBut p) (hx : (s.lane l).ctl.state.holdsBoard = false) :
    ((s.modCtl l fun c => { c with ejectTimer := none }).setLaneState l .fault).PlacedBut p := by
  have hcomm : (s.modCtl l fun c => { c with ejectTimer := none }).setLaneState l .fault =
      s.modCtl l fun c => { c with ejectTimer := none, state := .fault } := by cases l <;> rfl
  have hne (x : LaneState) (hb : x.holdsBoard = true) : (s.lane l).ctl.state ≠ x := fun he => by simp [he, hb] at hx
  rw [hcomm]
  refine .setState rfl hx.symm ?_ ?_ (fun hl => ?_) h
  · simp [hne .exitWait rfl]
  · simp [hne .transfer rfl]
  · have hclosed := hl.closed (hne .spraying rfl)
    have hgap := hl.gap_none (hne .spraying rfl)
    have hcheck := hl.check
    have hpace := hl.pace
    have hreadings := hl.readings
    simp only [hne .checking rfl, iff_false, imp_false] at hcheck hpace hreadings
    exact ⟨hl.path, by simpa using hcheck, by simpa using hpace, by simp, fun hn => absurd hclosed hn, by simp [hgap],
      hl.start, hl.ends, by simpa using hreadings, by simp, hl.report⟩

theorem endEject (h : s.PlacedBut p) (hx : (s.lane l).ctl.state = .ejecting) : (s.endEject l).PlacedBut p :=
  .enterIdle (h.vacate (by simp [hx, LaneState.holdsBoard]))

/-- R82: a BOARD record that comes to an empty slot. -/
theorem serveBoard {r : BoardReport} (h : s.PlacedBut p) (hslot : (s.lane l).station.boardSlot = none) :
    ((s.modStation l fun st => { st with boardSlot := some r }).serveBoard l).PlacedBut p := by
  have hfreed : ((s.modStation l fun st => { st with boardSlot := some r }).modStation l fun st =>
      { st with boardSlot := none }) = s := by
    rw [← hslot]
    cases l <;> rfl
  unfold State.serveBoard
  simp only [modStation_station, hfreed, modStation_ctl]
  cases r with
  | cleared => exact .ite (fun hx => h.endEject hx) fun _ => h
  | arrived m => exact .serveArrived (by rwa [hfreed]) (by simp)

theorem enterSlot {slot : StationSlot} {d : List Byte} (h : s.PlacedBut fun _ => False) :
    (s.enterSlot l slot d).PlacedBut fun _ => False := by
  cases slot with
  | startSlot =>
    refine .ite (fun _ => .loseRecord h) fun _ => .serveStart
      (.modStation (fun hl => ?_) (h.weaken fun _ => False.elim))
    exact { hl with start := fun hn => absurd rfl hn }
  | endSlot => exact .ite (fun _ => .loseRecord h) fun _ => .serveEnd h
  | inspectSlot => exact .ite (fun _ => .loseRecord h) fun _ => .serveInspect h
  | boardSlot => exact .ite (fun _ => .loseRecord h) fun hn => .serveBoard h (by simpa using hn)

theorem stationByte {slot : StationSlot} {c : Byte} (h : s.PlacedBut fun _ => False) :
    (s.stationByte l slot c).PlacedBut fun _ => False :=
  .ite (fun _ => .enterSlot (.setAssembler h)) fun _ => .setAssembler h

/-! ### Lane commands and the eject timer (R59, R60, R66 to R71) -/

theorem ejectExpired (h : s.PlacedBut p) (ht : (s.lane l).ctl.ejectTimer.isSome = true) :
    (s.ejectExpired l).PlacedBut p := by
  have hx := (h.lanes l).eject.1 ht
  exact .ite (fun _ => .raise (h.vacate (by simp [hx, LaneState.holdsBoard]))) fun hn => absurd hx hn

theorem configureLane {c : LaneSettings} (h : s.PlacedBut p) : (s.configureLane l c).PlacedBut p :=
  .ite (fun _ => .raise (.modCtl rfl rfl (fun hl => { hl with }) h)) fun _ => .modCtl rfl rfl (fun hl => { hl with }) h

theorem enable (h : s.PlacedBut p) :
    (if (s.lane l).ctl.state = .off then s.enterIdle l
      else s.modCtl l fun c => { c with disablePending := false }).PlacedBut p := by
  refine .ite (fun hx => .enterIdle ?_) fun _ => .modCtl rfl rfl (fun hl => { hl with rest := fun hx => ⟨rfl, ?_⟩ }) h
  · have htimer : (s.lane l).ctl.ejectTimer = none := by simpa [hx] using (h.lanes l).eject
    have hsame : (s.modCtl l fun c => { c with ejectTimer := none }) = s := by
      rw [← htimer]
      cases l <;> rfl
    have hvacant := h.vacate (l := l) (by simp [hx, LaneState.holdsBoard])
    rwa [hsame] at hvacant
  · exact (hl.rest hx).2

theorem disableLane (h : s.PlacedBut p) : (s.disableLane l).PlacedBut p := by
  unfold State.disableLane
  split
  · exact h
  · rename_i hx
    obtain ⟨-, hslot⟩ := (h.lanes l).rest (.inr hx)
    have hnone (t : State) (ht : (t.lane l).station.boardSlot = none) : t.serveArrived l = t := by
      simp [State.serveArrived, ht]
    rw [hnone _ (by simpa using hslot)]
    refine .setState rfl ?_ ?_ ?_ (fun hl => ?_) h
    · simp [hx, LaneState.holdsBoard]
    · simp [hx]
    · simp [hx]
    · have hq := hl.quiet (by simp [hx]) (by simp [hx]) (hl.closed (by simp [hx]))
      exact hq.rest (hl.gap_none (by simp [hx])) (.inl rfl) hq.eject rfl hslot
  · rename_i hoff hidle
    exact .modCtl rfl rfl (fun hl => { hl with rest := fun hx => (hx.elim hoff hidle).elim }) h

end State.PlacedBut
end Sys2Proof.Machine
end

section
/-!
The gate's occurrences, the oven, the dispositions and the resets keep every board in its place.
-/

namespace Sys2Proof.Machine

open Sys2Proof

variable {s t u : State} {l : LaneId} {n : Serial} {b : BoardRecord} {p : LaneId → Prop}

/-! ### Boards on their way to and from the gate and the oven -/

@[simp] theorem roster_endGrant (s : State) : s.endGrant.roster = { s.roster with grant := none } := rfl

@[simp] theorem endGrant_lane (s : State) (l : LaneId) : s.endGrant.lane l = s.lane l := by cases l <;> rfl

@[simp] theorem emptyStation_lane (s : State) (l : LaneId) : s.emptyStation.lane l = s.lane l := by cases l <;> rfl

/-- R142: the return station's board leaves it, with its grant. -/
theorem State.PlacedBut.leaveStation (h : s.PlacedBut p) (hn : s.roster.station = some n) (hr : t.records = s.records)
    {g : Option Source} (hg : g = if s.gate.grant = some .returnStation then none else s.gate.grant)
    (ht : t.roster = { s.roster with station := none, grant := g }) (hl : ∀ m, t.lane m = s.lane m) : t.Moving n p where
  distinct := hr ▸ h.distinct
  known := by
    obtain ⟨q, hq, -⟩ := (h.agrees.station n).1 hn
    have hsame : t.record? n = s.record? n := by simp [State.record?, hr]
    rw [hsame]
    exact (Option.map_eq_some_iff.1 hq).elim fun b hb => by simp [hb.1]
  agrees := by
    obtain ⟨q, hq, hx⟩ := (h.agrees.station n).1 hn
    rw [ht]
    exact h.agrees.takeStation hq hx hg
  lanes := fun m => by rw [hl]; exact h.lanes m

/-- R148: a granted lane's board leaves it, with its grant. -/
theorem State.PlacedBut.leaveTransfer (h : s.PlacedBut p) (hb : s.board l = some b)
    (hg : s.gate.grant = some (.lane l)) : (s.endGrant.setLaneState l .fault).Moving b.serial p where
  distinct := by simpa using h.distinct
  known := by
    have hsame : (s.endGrant.setLaneState l .fault).record? b.serial = s.record? b.serial := by cases l <;> rfl
    rw [hsame, h.record?_of_board hb]
    rfl
  agrees := by
    have hx : (s.lane l).ctl.state = .transfer := (h.agrees.grant l).1 hg
    have hexit : s.roster.exit l = none := by simp [State.roster, h.exit_none (l := l) (by simp [hx])]
    have hplace : s.roster.places b.serial = some b.place := by simp [h.record?_of_board hb]
    have hgrant : s.roster.grant = some (.lane l) := hg
    have htake := h.agrees.takeLane hplace (board_location s l b hb) (x := .fault) rfl (g := none) (by simp [hgrant])
    have hself : Function.update s.roster.exit l none = s.roster.exit := by rw [← hexit, Function.update_eq_self]
    simpa [Roster.setPlace, Roster.setState, Roster.setExit, hself] using htake
  lanes := by
    have hx : (s.lane l).ctl.state = .transfer := (h.agrees.grant l).1 hg
    have hs := h.lanes l
    have hq := hs.quiet (by simp [hx]) (by simp [hx]) (hs.closed (by simp [hx]))
    refine lanes_modLane (fun m _ => by rw [endGrant_lane]; exact h.lanes m) ?_
    rw [endGrant_lane]
    exact Lane.Quiet.sound { hq with } (hs.gap_none (by simp [hx])) (by simp) (by simp) (by simp) (by simp)

/-- R148, R158: a board on its way enters the oven. -/
theorem State.Moving.enterOven (h : s.Moving n p) : (s.enterOven n).PlacedBut p where
  distinct := distinct_modRecord _ n (fun _ hr => by exact hr) h.distinct
  agrees := by
    obtain ⟨r, hr⟩ := Option.isSome_iff_exists.1 h.known
    have hput := h.agrees.putOven (n := n) (q := ⟨r.lane, .oven, false⟩) (by simp [Roster.setPlace]) rfl rfl
    have hroster : State.roster { s with oven := { s.oven with queue := s.oven.queue ++ [⟨n, 0⟩] } } =
        { s.roster with oven := s.roster.oven ++ [n] } := by
      simp only [State.roster, List.map_append]
      rfl
    have hrec : State.record? { s with oven := { s.oven with queue := s.oven.queue ++ [⟨n, 0⟩] } } n = some r := hr
    rw [State.enterOven, roster_modRecord _ n fun _ hr => by exact hr, hroster, hrec]
    simpa [Roster.setPlace, BoardRecord.place] using hput
  lanes := fun m => by
    have hlane : (s.enterOven n).lane m = s.lane m := by cases m <;> rfl
    rw [hlane]
    exact h.lanes m

/-- The hold request of a board whose record only gained a reason. -/
theorem State.Leaving.laneHold_addReason {r : Reason} (h : s.Leaving l n p)
    (hstage : ∀ b, s.record? n = some b → b.stage ≠ .held) : ((s.addReason n r).laneHold l n).PlacedBut p :=
  h.addReason.laneHold fun c hc => by
    obtain ⟨d, hd, hdc⟩ := addReason_stage _ _ hc
    exact hdc ▸ hstage d hd

theorem emptyStation_ovenHold (s : State) (b : BoardRecord) (loc : HoldLocation) :
    (s.ovenHold b loc).emptyStation = s.emptyStation.ovenHold b loc := by
  have hfree : s.emptyStation.freeEntries = s.freeEntries := rfl
  unfold State.ovenHold
  rw [hfree]
  split <;> rfl

/-- R143, R149: the return station fails its board, its grant gone. -/
theorem State.Moving.stationFails {r : Reason} (h : s.emptyStation.Moving n p) :
    (s.stationFails n r).PlacedBut p := by
  have hknown : (s.record? n).isSome = true := h.known
  unfold State.stationFails
  cases hb : (s.addReason n r).record? n with
  | none =>
    rw [State.addReason, record?_modRecord s n (fun _ hr => by exact hr), if_pos rfl] at hb
    simp [Option.map_eq_none_iff.1 hb] at hknown
  | some b =>
    obtain rfl := record?_serial _ n b hb
    dsimp only
    rw [emptyStation_ovenHold]
    exact State.Moving.ovenHold (State.Moving.addReason h)

namespace State.PlacedBut

/-! ### The gate's occurrences (R142 to R150) -/

theorem presenceChange {level : Bool} (h : s.PlacedBut p) : (s.presenceChange level).PlacedBut p := by
  have hmoved : State.PlacedBut { s with gate := { s.gate with
      presence := level
      station := s.gate.station.map fun w =>
        if s.gate.stationState = .awaiting then { w with eligible := w.eligible || reached s.clock w.flashReady }
        else w } } p := by
    refine .setGate (fun m => by cases m <;> rfl) ?_ rfl h
    cases s.gate.station with
    | none => rfl
    | some w => by_cases hx : s.gate.stationState = .awaiting <;> simp [hx]
  exact .ite (fun _ => hmoved.reevaluateStation) fun _ => hmoved

/-- R143: the waiting board of a source keeps its serial. -/
theorem flashReady {src : Source} {w : Waiting} (h : s.PlacedBut p) (hw : s.gate.waiting src = some w) :
    (s.flashReady src w).PlacedBut p := by
  have hmarked : State.PlacedBut { s with
      gate := s.gate.setWaiting src (some { w with eligible := true, flashTimer := false }) } p := by
    cases src with
    | lane l =>
      refine .setGate (fun m => ?_) (by simp [Gate.setWaiting]) (by simp) h
      by_cases hm : m = l
      · subst hm
        have hx : s.gate.exit m = some w := hw
        simp [Gate.setWaiting, hx]
      · simp [Gate.setWaiting, setExit_exit_ne _ _ _ _ hm]
    | returnStation =>
      have hx : s.gate.station = some w := by
        simp only [Gate.waiting] at hw
        split at hw
        · cases hw
        · exact hw
      exact .setGate (fun m => by cases m <;> rfl) (by simp [Gate.setWaiting, hx]) rfl h
  exact .ite (fun _ => hmarked) fun _ => hmarked.reevaluate

/-- The board of a lane's entry at the gate is the lane's current board. -/
theorem board_of_exit {w : Waiting} (h : s.PlacedBut p) (hw : s.gate.exit l = some w) :
    ∃ b, s.board l = some b ∧ b.serial = w.serial ∧ (s.lane l).ctl.state = .exitWait := by
  have hexit : s.roster.exit l = some w.serial := by simp [State.roster, hw]
  obtain ⟨q, hq, hx⟩ := h.agrees.exits l _ hexit
  obtain ⟨b, hb, rfl⟩ := Option.map_eq_some_iff.1 hq
  exact ⟨b, h.board_eq hb hx, record?_serial s _ b hb, (h.agrees.exit l).1 (by simp [hexit])⟩

theorem laneDeadline {w : Waiting} {r : Reason} (h : s.PlacedBut p) (hw : s.gate.exit l = some w) :
    ((State.addReason { s with gate := s.gate.setExit l none } w.serial r).laneHold l w.serial).PlacedBut p := by
  obtain ⟨b, hb, hn, hx⟩ := h.board_of_exit hw
  have hleave := h.leaving hb (by simp [hx]) (by simp [hx]) ((h.lanes l).closed (by simp [hx]))
  rw [← hn]
  exact hleave.dropExit.laneHold_addReason fun c hc => h.stage_ne_held (h.at_of_board hb) nofun hc

end State.PlacedBut
end Sys2Proof.Machine
end

section
/-!
The gate's rows, the oven's and the dispositions keep every board in its place.
-/

namespace Sys2Proof.Machine

open Sys2Proof

variable {s t u : State} {l : LaneId} {n : Serial} {b : BoardRecord} {p : LaneId → Prop}

/-! ### What an occurrence leads to -/

/-- An outcome after which every board is in its place. -/
def State.PlacesNext (o : Host.Outcome State Fault Refusal) : Prop := ∀ t, o = .next t → t.PlacedBut fun _ => False

namespace State.PlacesNext

theorem next (h : t.PlacedBut fun _ => False) : State.PlacesNext (.next t) := fun _ he => by
  cases he
  exact h

theorem whenDue {c : Prop} [Decidable c] (hs : s.PlacedBut fun _ => False) (h : c → t.PlacedBut fun _ => False) :
    State.PlacesNext (if c then .next t else .next s) := by
  split
  · exact .next (h ‹_›)
  · exact .next hs

end State.PlacesNext

/-! ### The gate's rows (R142 to R150) -/

/-- R142, R147: the board of the station leaves it, with a grant that is the station's. -/
theorem State.PlacedBut.leaveGrantedStation (h : s.PlacedBut p) (hg : s.gate.grant = some .returnStation) :
    ∃ n, s.grantedSerial .returnStation = some n ∧ s.endGrant.emptyStation.Moving n p := by
  obtain ⟨n, hn⟩ := Option.isSome_iff_exists.1 (h.agrees.returning hg)
  exact ⟨n, hn, h.leaveStation hn rfl (g := none) (by simp [hg]) rfl fun m => by cases m <;> rfl⟩

namespace State.PlacedBut

theorem ovenEntry (h : s.PlacedBut p) {src : Source} (hg : s.gate.grant = some src) :
    ∃ n, s.grantedSerial src = some n ∧ ((s.endGrant.enterOven n).freeSource src).PlacedBut p := by
  cases src with
  | lane l =>
    obtain ⟨b, hb⟩ := h.board_isSome (l := l) (by
      have hx : (s.lane l).ctl.state = .transfer := (h.agrees.grant l).1 hg
      simp [hx, LaneState.holdsBoard])
    have hcomm : (s.endGrant.setLaneState l .fault).enterOven b.serial =
        (s.endGrant.enterOven b.serial).setLaneState l .fault := by cases l <;> rfl
    exact ⟨b.serial, by simp [State.grantedSerial, hb], .enterIdle (hcomm ▸ (h.leaveTransfer hb hg).enterOven)⟩
  | returnStation =>
    obtain ⟨n, hn, hmoving⟩ := h.leaveGrantedStation hg
    exact ⟨n, hn, hmoving.enterOven⟩

theorem transferFails (h : s.PlacedBut p) {src : Source} (hg : s.gate.grant = some src) :
    (s.transferFails src).PlacedBut p := by
  unfold State.transferFails
  cases src with
  | lane l =>
    have hx : (s.lane l).ctl.state = .transfer := (h.agrees.grant l).1 hg
    obtain ⟨b, hb⟩ := h.board_isSome (l := l) (by simp [hx, LaneState.holdsBoard])
    have hletGo : s.endGrant.letGo l = s.endGrant := by
      refine letGo_eq_self ?_ ?_ ?_ ?_
      · have hexit := h.exit_none (l := l) (by simp [hx])
        cases l <;> exact hexit
      · simpa using (h.lanes l).gap_none (by simp [hx])
      all_goals simp [hx]
    have hleave : s.endGrant.Leaving l b.serial p := by
      rw [State.Leaving, hletGo]
      exact h.leaveTransfer hb hg
    have hserial : s.grantedSerial (.lane l) = some b.serial := by simp [State.grantedSerial, hb]
    rw [hserial]
    exact hleave.laneHold_addReason fun c hc => h.stage_ne_held (h.at_of_board hb) nofun hc
  | returnStation =>
    obtain ⟨n, hn, hmoving⟩ := h.leaveGrantedStation hg
    rw [hn]
    exact hmoving.stationFails

/-- R143: the station's board fails at its deadline. -/
theorem stationDeadline {w : Waiting} {r : Reason} (h : s.PlacedBut p) (hw : s.gate.waiting .returnStation = some w) :
    (s.stationFails w.serial r).PlacedBut p := by
  simp only [Gate.waiting] at hw
  split at hw
  · cases hw
  · rename_i hg
    have hn : s.roster.station = some w.serial := by simp [State.roster, hw]
    have hmoving : s.emptyStation.Moving w.serial p :=
      h.leaveStation hn rfl (g := s.gate.grant) (by simp [hg]) rfl fun m => by simp
    exact hmoving.stationFails

/-- What of the oven and the gate is neither a queue of boards, a requester nor a grant. -/
theorem setOven {o : Oven} (ho : o.queue.map (·.serial) = s.oven.queue.map (·.serial)) (h : s.PlacedBut p) :
    State.PlacedBut { s with oven := o } p := by
  refine h.of_same rfl ?_ rfl rfl
  simp only [State.roster, ho]
  rfl

theorem ovenAccept {on : Bool} (h : s.PlacedBut p) :
    State.PlacedBut { s with gate := { s.gate with ovenAccept := on } } p :=
  .setGate (fun m => by cases m <;> rfl) rfl rfl h

theorem advance {k : Nat} (h : s.PlacedBut p) : State.PlacedBut { s with oven := s.oven.advance k } p :=
  .setOven (by simp [Oven.advance, Function.comp_def]) h

end State.PlacedBut

theorem execReturnPresenceChange_places {level : Bool} (h : s.PlacedBut fun _ => False) :
    State.PlacesNext (execReturnPresenceChange level s) := by
  unfold execReturnPresenceChange
  split
  · exact .next h
  · exact .next h.presenceChange

theorem execFlashReadyExpiry_places {src : Source} (h : s.PlacedBut fun _ => False) :
    State.PlacesNext (execFlashReadyExpiry src s) := by
  unfold execFlashReadyExpiry
  split
  · exact .next h
  · exact .whenDue h fun _ => h.flashReady ‹_›

theorem execLaneDeadlineExpiry_places (h : s.PlacedBut fun _ => False) :
    State.PlacesNext (execLaneDeadlineExpiry l s) := by
  unfold execLaneDeadlineExpiry
  split
  · exact .next h
  · exact .whenDue h fun _ => h.laneDeadline ‹_›

theorem execReturnDeadlineExpiry_places (h : s.PlacedBut fun _ => False) :
    State.PlacesNext (execReturnDeadlineExpiry s) := by
  unfold execReturnDeadlineExpiry
  split
  · exact .next h
  · exact .whenDue h fun _ => h.stationDeadline ‹_›

theorem execOvenEntryEvent_places (h : s.PlacedBut fun _ => False) : State.PlacesNext (execOvenEntryEvent s) := by
  unfold execOvenEntryEvent
  split
  · exact .next (.raise h)
  · rename_i src hg
    obtain ⟨n, hn, hplaced⟩ := h.ovenEntry hg
    rw [hn]
    exact .next hplaced.reevaluate

theorem execTransferTimerExpiry_places (h : s.PlacedBut fun _ => False) :
    State.PlacesNext (execTransferTimerExpiry s) := by
  unfold execTransferTimerExpiry
  split
  · split
    · rename_i hg
      refine .next (h.of_same rfl ?_ rfl rfl)
      have hnone : s.roster.grant = none := hg
      rw [roster_endGrant, ← hnone]
    · exact .next (h.transferFails ‹_›).reevaluate
  · exact .next h

theorem execEncoderPulse_places (h : s.PlacedBut fun _ => False) : State.PlacesNext (execEncoderPulse s) := by
  unfold execEncoderPulse
  split
  · exact .next h
  · dsimp only
    split
    · exact .next h.advance.reevaluate
    · exact .next h.advance

/-! ### The oven (R155 to R164) -/

/-- R163: the head of the occupancy queue leaves it. -/
theorem State.PlacedBut.leaveOven {e : OvenEntry} {rest : List OvenEntry} (h : s.PlacedBut p)
    (he : s.oven.queue = e :: rest) :
    State.Moving { s with oven := { s.oven with queue := rest } } e.serial p where
  distinct := h.distinct
  known := by
    have hmem : e.serial ∈ s.roster.oven := by simp [State.roster, he]
    obtain ⟨q, hq, -⟩ := (h.agrees.oven _).1 hmem
    obtain ⟨b, hb, -⟩ := Option.map_eq_some_iff.1 hq
    exact Option.isSome_iff_exists.2 ⟨b, hb⟩
  agrees := by
    have htake := h.agrees.takeOven (n := e.serial) (ns := rest.map (·.serial)) (by simp [State.roster, he])
    exact htake
  lanes := fun
    | .lane0 => h.lanes .lane0
    | .lane1 => h.lanes .lane1

theorem State.Moving.finish {k : EventKind} {x : Option LaneId} {m : Serial} {c : Nat} (h : s.Moving n p) :
    (raise k x m c (s.removeRecord n)).PlacedBut p :=
  .raise ⟨distinct_removeRecord s n h.distinct, by simpa using h.agrees, fun l => by simpa using h.lanes l⟩

theorem judgeDose_serial (c : Cure) (b : BoardRecord) : (judgeDose c b).serial = b.serial := by
  unfold judgeDose
  dsimp only
  split <;> split <;> rfl

theorem State.Moving.judgeExit (h : s.Moving b.serial p) : (s.judgeExit b).PlacedBut p := by
  refine .ite (fun _ => ?_) fun _ => h.finish
  have hserial := judgeDose_serial (s.recipe b.slot).cureD b
  exact State.Moving.ovenHold (hserial.symm ▸ h.modRecord fun _ _ => hserial)

theorem doseBoard_place (c : Cure) (temp : Option Int) (b : BoardRecord) :
    (doseBoard c temp b).serial = b.serial ∧ (doseBoard c temp b).place = b.place := by
  unfold doseBoard
  split
  · exact ⟨rfl, rfl⟩
  · dsimp only
    split <;> exact ⟨rfl, rfl⟩

namespace State.PlacedBut

theorem popHead {e : OvenEntry} {rest : List OvenEntry} (h : s.PlacedBut p) (he : s.oven.queue = e :: rest) :
    (s.popHead e rest).PlacedBut p := by
  have hmoving := h.leaveOven he
  obtain ⟨b, hb⟩ := Option.isSome_iff_exists.1 hmoving.known
  obtain hn := record?_serial _ _ b hb
  unfold State.popHead
  dsimp only
  rw [hb]
  exact State.Moving.judgeExit (hn ▸ hmoving)

theorem doseAll {es : List OvenEntry} (h : s.PlacedBut p) : (s.doseAll es).PlacedBut p := by
  induction es generalizing s with
  | nil => exact h
  | cons e rest ih => exact ih (.modRecord (fun b => doseBoard_place _ _ b) h)

theorem makeStale {z : Fin 6} (h : s.PlacedBut p) : (s.makeStale z).PlacedBut p := .raise (.setOven rfl h)

theorem judgeZones {zs : List (Fin 6)} (h : s.PlacedBut p) : (s.judgeZones zs).PlacedBut p := by
  induction zs generalizing s with
  | nil => exact h
  | cons z rest ih => exact ih (.ite (fun _ => h.makeStale) fun _ => h)

theorem judgeSensor {d : List Byte} (h : s.PlacedBut p) : (s.judgeSensor d).PlacedBut p := by
  unfold State.judgeSensor
  split
  · exact h
  · exact .ite (fun _ => .setOven rfl h) fun _ => h

theorem sensorByte {c : Byte} {stop : Bool} (h : s.PlacedBut p) : (s.sensorByte c stop).PlacedBut p :=
  .ite (fun _ => .setOven rfl h) fun _ => .ite (fun _ => h) fun _ =>
    .ite (fun _ => .setOven rfl h) fun _ => .judgeSensor (.setOven rfl h)

end State.PlacedBut

theorem execOvenExitEvent_places (h : s.PlacedBut fun _ => False) : State.PlacesNext (execOvenExitEvent s) := by
  unfold execOvenExitEvent
  split
  · exact .next (.raise h)
  · split
    · exact .next (.raise h)
    · exact .next (h.popHead ‹_›).reevaluate

/-! ### Holds and dispositions (R168 to R178) -/

/-- R168, R174: a held board leaves the hold table. -/
theorem State.PlacedBut.leaveHold (h : s.PlacedBut p) (hb : s.record? n = some b) (hx : b.location = .hold) :
    (s.removeHold n).Moving n p where
  distinct := h.distinct
  known := by
    have hsame : (s.removeHold n).record? n = s.record? n := rfl
    simp [hsame, hb]
  agrees := by
    have htake := h.agrees.takeHold (n := n) (q := b.place) (by simp [hb]) hx
    have hroster : (s.removeHold n).roster = { s.roster with holds := s.roster.holds.filter (· != n) } := by
      simp only [State.removeHold, roster_setHolds]
      simp [State.roster, List.filter_map, Function.comp_def]
    rw [hroster]
    exact htake
  lanes := fun
    | .lane0 => h.lanes .lane0
    | .lane1 => h.lanes .lane1

/-- R41: a HELD board is in the hold table. -/
theorem State.PlacedBut.location_hold (h : s.PlacedBut p) (hb : s.record? n = some b) (hx : b.stage = .held) :
    b.location = .hold :=
  (h.agrees.held n b.place (by simp [hb])).1 (by simp [BoardRecord.place, hx])

/-- R48, R177: a board on its way joins the tail of an announce queue. -/
theorem State.Moving.joinQueue {f : BoardRecord → BoardRecord} {e : QueueEntry} (h : s.Moving e.serial p)
    (hf : ∀ r, r.serial = e.serial → (f r).serial = e.serial)
    (hx : ∀ r, (f r).location = .announceQueue ∧ (f r).lane = l ∧ (f r).stage ≠ .held) :
    ((s.modRecord e.serial f).joinQueue l e).PlacedBut p where
  distinct := by simpa [State.joinQueue] using distinct_modRecord s _ hf h.distinct
  agrees := by
    obtain ⟨r, hr⟩ := Option.isSome_iff_exists.1 h.known
    obtain ⟨hloc, rfl, hstage⟩ := hx r
    have hput := h.agrees.putQueue (n := e.serial) (q := (f r).place) (by simp [Roster.setPlace]) hloc
      (by simpa [BoardRecord.place] using hstage)
    rw [roster_joinQueue, roster_modRecord _ _ hf, hr]
    simpa [Roster.setPlace, Roster.setQueue, BoardRecord.place] using hput
  lanes := by
    refine lanes_modLane (fun m _ => by simpa using h.lanes m) ?_
    rw [modRecord_lane]
    exact { h.lanes l with }

/-- R178: a board on its way comes to an empty return station. -/
theorem State.Moving.enterStation {f : BoardRecord → BoardRecord} (h : s.Moving b.serial p)
    (he : s.gate.station = none) (hf : ∀ r, r.serial = b.serial → (f r).serial = b.serial)
    (hx : ∀ r, (f r).location = .returnStation ∧ (f r).stage ≠ .held) :
    ((s.modRecord b.serial f).enterStation b).PlacedBut p where
  distinct := distinct_modRecord s _ hf h.distinct
  agrees := by
    obtain ⟨r, hr⟩ := Option.isSome_iff_exists.1 h.known
    obtain ⟨hloc, hstage⟩ := hx r
    have hput := h.agrees.putStation (n := b.serial) (q := (f r).place) (by simp [Roster.setPlace]) hloc
      (by simpa [BoardRecord.place] using hstage) (by simpa [State.roster, Roster.setPlace] using he)
    have hserial : ((s.modRecord b.serial f).stationWaiting b).serial = b.serial := by
      unfold State.stationWaiting
      dsimp only
      split <;> rfl
    have hroster : ((s.modRecord b.serial f).enterStation b).roster =
        { (s.modRecord b.serial f).roster with station := some b.serial } := by
      rw [State.enterStation, roster_setGate]
      simp only [Option.map_some, hserial]
      rfl
    rw [hroster, roster_modRecord _ _ hf, hr]
    simpa [Roster.setPlace] using hput
  lanes := fun m => by
    have hlane : ((s.modRecord b.serial f).enterStation b).lane m = s.lane m := by cases m <;> rfl
    rw [hlane]
    exact h.lanes m

namespace State.PlacedBut

theorem disposeOut {k : EventKind} (h : s.PlacedBut p) (hb : s.record? b.serial = some b) (hx : b.stage = .held) :
    (s.disposeOut k b).PlacedBut p := .retryBlocked (h.leaveHold hb (h.location_hold hb hx)).finish

theorem disposeRespray {areas : FlagSet 12} (h : s.PlacedBut p) (hb : s.record? b.serial = some b)
    (hx : b.stage = .held) : (s.disposeRespray b l areas).PlacedBut p :=
  .retryBlocked (State.Moving.joinQueue (e := ⟨b.serial, true⟩) (h.leaveHold hb (h.location_hold hb hx))
    (fun _ hr => by exact hr) fun _ => ⟨rfl, rfl, nofun⟩)

theorem disposeRecure (h : s.PlacedBut p) (hb : s.record? b.serial = some b) (hx : b.stage = .held)
    (he : s.gate.station = none) : (s.disposeRecure b).PlacedBut p :=
  .retryBlocked (.reevaluateStation (State.Moving.enterStation (h.leaveHold hb (h.location_hold hb hx)) he
    (fun _ hr => by exact hr) fun _ => ⟨rfl, nofun⟩))

theorem escalate {e : HoldEntry} {x : LaneId} (h : s.PlacedBut p) : (s.escalate n e x).PlacedBut p := by
  refine .raise (.addReason (h.of_same rfl ?_ rfl rfl))
  have hserials : (s.holds.map fun x =>
      if x.serial = n then { x with state := .escalated, deadline := none } else x).map (·.serial) = s.holds.map (·.serial) := by
    rw [List.map_map]
    refine List.map_congr_left fun x _ => ?_
    by_cases hx : x.serial = n <;> simp [hx]
  rw [roster_setHolds, hserials]
  rfl

end State.PlacedBut

theorem execEscalationDeadlineExpiry_places (h : s.PlacedBut fun _ => False) :
    State.PlacesNext (execEscalationDeadlineExpiry n s) := by
  unfold execEscalationDeadlineExpiry
  split
  · exact .whenDue h fun _ => h.escalate
  · exact .next h

end Sys2Proof.Machine
end

section
/-!
The path commands, the resets and ANNOUNCE keep every board in its place.
-/

namespace Sys2Proof.Machine

open Sys2Proof

variable {s t u : State} {l : LaneId} {n : Serial} {b : BoardRecord} {p : LaneId → Prop}

/-! ### The numbers of loaded segments (R102) -/

theorem PathExec.Numbered.lastLoaded {pe : PathExec} (h : pe.Numbered) : pe.lastLoaded = pe.queue.length := by
  rw [PathExec.lastLoaded, ← List.getLast?_map, h.numbers]
  cases pe.queue.length with
  | zero => rfl
  | succ k => simp [List.range_succ]

theorem parseSegment_number {r : RecipeSlot} {k : Nat} {d : List Byte} {seg : Segment} {c : Bool}
    (h : parseSegment r k d = some (seg, c)) : seg.number = k := by
  unfold parseSegment at h
  split at h
  · dsimp only at h
    split at h
    · cases h
      rfl
    · cases h
  · cases h

theorem parseSegments_numbers {r : RecipeSlot} {k : Nat} {ds : List (List Byte)} {segs : List Segment} {c : Bool}
    (h : parseSegments r k ds = some (segs, c)) : segs.map (·.number) = (List.range segs.length).map (· + k) := by
  induction ds generalizing k segs c with
  | nil =>
    cases h
    rfl
  | cons d rest ih =>
    unfold parseSegments at h
    split at h
    · rename_i seg _ segs _ hseg hsegs
      cases h
      rw [List.map_cons, ih hsegs, parseSegment_number hseg, List.length_cons, List.range_succ_eq_map, List.map_cons,
        List.map_map, Nat.zero_add]
      refine congrArg _ (List.map_congr_left fun i _ => ?_)
      simp only [Function.comp_apply]
      omega
    · cases h

/-- R106: segments loaded behind the last. -/
theorem PathExec.Numbered.load {pe : PathExec} {segs : List Segment} (h : pe.Numbered) (hx : pe.state = .opened)
    (hs : segs.map (·.number) = (List.range segs.length).map (· + (pe.lastLoaded + 1))) :
    PathExec.Numbered { pe with queue := pe.queue ++ segs } where
  slot := h.slot
  none := by simp [hx]
  numbers := by
    rw [List.map_append, h.numbers, hs, h.lastLoaded, List.length_append, List.range_add, List.map_append, List.map_map]
    refine congrArg _ (List.map_congr_left fun i _ => ?_)
    simp only [Function.comp_apply]
    omega
  last := by simpa [hx] using h.last

/-- A path with nothing loaded runs nothing. -/
theorem Lane.Sound.closed_of_empty {x : Lane} {w : Prop} (h : x.Sound w) (hx : x.path.state = .empty) :
    x.path.seq = .closed := by
  by_contra hn
  obtain ⟨-, -, h1, h2⟩ := h.running hn
  simp only [(h.path.none hx).1, List.length_nil] at h2
  omega

/-! ### Path commands (R104 to R109) -/

namespace State.PlacedBut

/-- R104: PATH_BEGIN opens an EMPTY path, at the cursor it has or at 1. -/
theorem openPath {i : Fin 8} {f : PathExec → Nat} (h : s.PlacedBut p) (hx : (s.lane l).path.state = .empty) :
    (s.modPath l fun pe => { pe with
      state := .opened, slot := some i, keep := false, queue := [], last := none, cursor := f pe }).PlacedBut p :=
  .modPath (fun hl => { hl with
    path := ⟨by simp, nofun, rfl, rfl⟩
    running := fun hn => absurd (hl.closed_of_empty hx) hn }) h

/-- R105: a mismatch asks for a hold of the lane's board. -/
theorem holdMismatch {r : Reason} (h : s.PlacedBut p) (hb : s.board l = some b)
    (hx : (s.lane l).ctl.state = .armed ∨ (s.lane l).ctl.state = .spraying) (hc : (s.lane l).path.seq = .closed) :
    ((s.addReason b.serial r).laneHold l b.serial).PlacedBut p := by
  have hleave : s.Leaving l b.serial p := by
    refine h.leaving hb ?_ ?_ hc <;> rcases hx with hx | hx <;> simp [hx]
  exact hleave.laneHold_addReason fun c hc => h.stage_ne_held (h.at_of_board hb) nofun hc

theorem loadPath {segs : List Segment} (h : s.PlacedBut p) (hx : (s.lane l).path.state = .opened)
    (hs : segs.map (·.number) = (List.range segs.length).map (· + ((s.lane l).path.lastLoaded + 1))) :
    (s.modPath l fun pe => { pe with queue := (s.lane l).path.queue ++ segs }).PlacedBut p :=
  .modPath (fun hl => { hl with
    path := hl.path.load hx hs
    running := fun hn => by
      obtain ⟨hspray, hexec, h1, h2⟩ := hl.running hn
      exact ⟨hspray, hexec, h1, by simp only [List.length_append]; omega⟩ }) h

/-- R107: an opened path with its segments is COMPLETE; a SPRAYING lane past the last ends its spray. -/
theorem completePath (h : s.PlacedBut p) (hx : (s.lane l).path.state = .opened) :
    (if (s.lane l).ctl.state = .spraying ∧ (s.lane l).path.lastLoaded < (s.lane l).path.cursor then
        (s.modPath l fun pe => { pe with state := .complete, last := some (s.lane l).path.lastLoaded }).sprayEnd l
      else s.modPath l fun pe =>
        { pe with state := .complete, last := some (s.lane l).path.lastLoaded }).PlacedBut p := by
  have hcomplete : (s.modPath l fun pe =>
      { pe with state := .complete, last := some (s.lane l).path.lastLoaded }).PlacedBut p :=
    .modPath (fun hl => { hl with
      path := ⟨by simpa [hx] using hl.path.slot, nofun, hl.path.numbers, by simp [hl.path.lastLoaded]⟩ }) h
  refine .ite (fun hs => hcomplete.sprayEnd (by simpa using hs.1) ?_) fun _ => hcomplete
  rw [modPath_path]
  by_contra hn
  obtain ⟨-, -, -, h2⟩ := (h.lanes l).running hn
  have hlast := (h.lanes l).path.lastLoaded
  omega

theorem keepPath {keep : Bool} (h : s.PlacedBut p) (hx : (s.lane l).path.state ≠ .empty) :
    (s.modPath l fun pe => { pe with keep := keep }).PlacedBut p :=
  .modPath (fun hl => { hl with path := { hl.path with none := fun he => absurd he hx } }) h

theorem emptyPath (h : s.PlacedBut p) (hx : (s.lane l).ctl.state ≠ .spraying) :
    (s.modPath l PathExec.emptied).PlacedBut p :=
  .modPath (fun hl => { hl with
    path := .emptied _
    running := fun hn => absurd (hl.closed hx) hn }) h

/-! ### Announcements (R48, R50) -/

theorem announce {f : BoardRecord} (h : s.PlacedBut p) (hn : s.record? f.serial = none)
    (hx : f.location = .announceQueue) (hs : f.stage ≠ .held) :
    (State.joinQueue { s with records := s.records ++ [f] } f.lane ⟨f.serial, false⟩).PlacedBut p where
  distinct := by
    simp only [State.joinQueue, modCtl_records, List.map_append]
    refine List.Nodup.append h.distinct (List.nodup_singleton _) ?_
    simpa using serial_ne_of_record?_none hn
  agrees := by
    have hput := h.agrees.putQueue (n := f.serial) (q := f.place) (by simp [hn]) hx
      (by simpa [BoardRecord.place] using hs)
    have hplaces (m : Serial) : (State.record? { s with records := s.records ++ [f] } m).map BoardRecord.place =
        Function.update s.roster.places f.serial (some f.place) m := by
      by_cases hm : m = f.serial
      · subst hm
        have hfind : s.records.find? (·.serial == f.serial) = none := hn
        simp [State.record?, hfind]
      · simp [State.record?, hm, Ne.symm hm]
    have hroster : State.roster { s with records := s.records ++ [f] } = s.roster.setPlace f.serial (some f.place) := by
      rw [Roster.setPlace, ← funext hplaces]
      rfl
    rw [roster_joinQueue, hroster]
    exact hput
  lanes := by
    have hlane (m : LaneId) : State.lane { s with records := s.records ++ [f] } m = s.lane m := by cases m <;> rfl
    refine lanes_modLane (fun m _ => by rw [hlane]; exact h.lanes m) ?_
    rw [hlane]
    exact { h.lanes f.lane with }

theorem withdraw (h : s.PlacedBut p) (hb : s.record? n = some b) (hx : b.location = .announceQueue) :
    ((s.leaveQueue b.lane n).removeRecord n).PlacedBut p where
  distinct := by
    refine distinct_removeRecord _ n ?_
    simpa [State.leaveQueue] using h.distinct
  agrees := by
    have htake := h.agrees.takeQueue (n := n) (q := b.place) (by simp [hb]) hx
    rw [roster_removeRecord, roster_leaveQueue]
    exact htake
  lanes := fun m => by
    rw [removeRecord_lane]
    exact lanes_modLane (fun m _ => h.lanes m) { h.lanes b.lane with } m

end State.PlacedBut

/-! ### LANE_RESET (R71) -/

/-- R71, R85, R86, R121: nothing runs in a lane that was cleared. -/
theorem clearLane_sound (s : State) (l : LaneId) {w : Prop} : ((s.clearLane l).lane l).Sound w := by
  rw [State.clearLane, modLane_lane]
  have hnumbered := reset_path_numbered
  constructor <;> simp [StationPort.emptied, MaskChecker.stopped, PathExec.reset]
  exact hnumbered

theorem clearLane_lane_ne (s : State) {l m : LaneId} (h : m ≠ l) : (s.clearLane l).lane m = s.lane m := by
  rw [State.clearLane, modLane_lane_ne _ l m _ h]
  cases m <;> rfl

theorem roster_clearLane (s : State) (l : LaneId) :
    (s.clearLane l).roster = (s.roster.setState l .off).setExit l none := by
  have hqueue : (s.lane l).ctl.queue.map (·.serial) = s.roster.queue l := rfl
  have hlane : State.lane { s with gate := s.gate.setExit l none } l = s.lane l := by cases l <;> rfl
  rw [State.clearLane, roster_modLane, roster_setExit, hlane]
  dsimp only
  rw [hqueue]
  exact Roster.setQueue_self ((s.roster.setExit l none).setState l .off) l

@[simp] theorem clearLane_records (s : State) (l : LaneId) : (s.clearLane l).records = s.records := by cases l <;> rfl

/-- R71, R151: the lane cleared, and its grant withdrawn. -/
def State.withdrawLane (s : State) (l : LaneId) : State :=
  if s.gate.grant = some (.lane l) then (s.clearLane l).endGrant else s.clearLane l

theorem resetLane_eq (s : State) (l : LaneId) :
    s.resetLane l = if s.gate.grant = some (.lane l) then
      (match s.board l with
        | none => s.withdrawLane l
        | some b => (s.withdrawLane l).abortBoard l b).reevaluate
      else match s.board l with
        | none => s.withdrawLane l
        | some b => (s.withdrawLane l).abortBoard l b := rfl

@[simp] theorem withdrawLane_lane (s : State) (l m : LaneId) : (s.withdrawLane l).lane m = (s.clearLane l).lane m := by
  unfold State.withdrawLane
  split
  · exact endGrant_lane ..
  · rfl

@[simp] theorem withdrawLane_records (s : State) (l : LaneId) : (s.withdrawLane l).records = s.records := by
  unfold State.withdrawLane
  split
  · exact clearLane_records s l
  · exact clearLane_records s l

theorem roster_withdrawLane (s : State) (l : LaneId) :
    (s.withdrawLane l).roster = { (s.roster.setState l .off).setExit l none with
      grant := if s.roster.grant = some (.lane l) then none else s.roster.grant } := by
  have hgrant : s.roster.grant = s.gate.grant := rfl
  unfold State.withdrawLane
  rw [hgrant]
  split
  · rw [roster_endGrant, roster_clearLane]
  · rw [roster_clearLane]
    rfl

namespace State.PlacedBut

theorem withdrawLane_lanes (h : s.PlacedBut p) (m : LaneId) : ((s.withdrawLane l).lane m).Sound (p m) := by
  rw [withdrawLane_lane]
  by_cases hm : m = l
  · subst hm
    exact clearLane_sound s m
  · rw [clearLane_lane_ne s hm]
    exact h.lanes m

/-- R71: LANE_RESET at a lane without a board. -/
theorem withdrawLane (h : s.PlacedBut p) (hb : s.board l = none) : (s.withdrawLane l).PlacedBut p where
  distinct := by simpa using h.distinct
  agrees := by
    have hno : (s.roster.state l).holdsBoard = false := by
      by_contra hn
      obtain ⟨b, hsome⟩ := h.board_isSome (l := l) (by simpa [State.roster] using hn)
      simp [hb] at hsome
    have hexit : s.roster.exit l = none := by
      have hx := h.agrees.exit l
      cases he : s.roster.exit l with
      | none => rfl
      | some n =>
        rw [he] at hx
        simp [hx.1 rfl, LaneState.holdsBoard] at hno
    have hgrant : s.roster.grant ≠ some (.lane l) := fun hg => by
      simp [(h.agrees.grant l).1 hg, LaneState.holdsBoard] at hno
    have hchange := h.agrees.changeState (l := l) (x := .off) hno.symm
      (by simp only [reduceCtorEq, false_iff]; exact fun hx => by simp [hx, LaneState.holdsBoard] at hno)
      (by simp only [reduceCtorEq, false_iff]; exact fun hx => by simp [hx, LaneState.holdsBoard] at hno)
    have hself : (s.roster.setState l .off).setExit l none = s.roster.setState l .off := by
      simp [Roster.setExit, Roster.setState, ← hexit]
    rw [roster_withdrawLane, if_neg hgrant, hself]
    exact hchange
  lanes := h.withdrawLane_lanes

/-- R71: LANE_RESET takes the lane's board out of it. -/
theorem withdrawBoard (h : s.PlacedBut p) (hb : s.board l = some b) : (s.withdrawLane l).Moving b.serial p where
  distinct := by simpa using h.distinct
  known := by
    have hsame : (s.withdrawLane l).record? b.serial = s.record? b.serial := by simp [State.record?]
    rw [hsame, h.record?_of_board hb]
    rfl
  agrees := by
    have htake := h.agrees.takeLane (n := b.serial) (q := b.place) (by simp [h.record?_of_board hb])
      (board_location s l b hb) (x := .off) rfl rfl
    rw [roster_withdrawLane]
    exact htake
  lanes := h.withdrawLane_lanes

theorem resetLane (h : s.PlacedBut p) : (s.resetLane l).PlacedBut p := by
  have haborted : (match s.board l with
      | none => s.withdrawLane l
      | some b => (s.withdrawLane l).abortBoard l b).PlacedBut p := by
    cases hb : s.board l with
    | none => exact h.withdrawLane hb
    | some b =>
      have hmoving := h.withdrawBoard hb
      exact .ite (fun _ => hmoving.addReason.grantHold) fun _ => hmoving.overflow
  rw [resetLane_eq]
  exact .ite (fun _ => haborted.reevaluate) fun _ => haborted

/-! ### LINE_RESET and power-on (R18, R83) -/

/-- A state whose roster is the reset state's, with every lane sound. -/
theorem of_reset (hd : s.records = []) (hr : s.roster = State.reset.roster) (hl : ∀ m, (s.lane m).Sound (p m)) :
    s.PlacedBut p where
  distinct := by simp [hd]
  agrees := hr ▸ ((placed_iff _).1 reset_placed).agrees
  lanes := hl

theorem resetLine (s : State) : s.resetLine.PlacedBut p := by
  refine .of_reset rfl ?_ fun m => ?_
  · rw [State.roster, State.roster, Roster.mk.injEq]
    refine ⟨rfl, ?_, ?_, ?_, rfl, rfl, rfl, rfl⟩ <;> funext m <;> cases m <;> rfl
  · cases m
    · have hl := clearLane_sound s .lane0 (w := p .lane0)
      exact { hl with }
    · have hl := clearLane_sound (s.clearLane .lane0) .lane1 (w := p .lane1)
      exact { hl with }

theorem powered_sound (x : Lane) {w : Prop} : x.powered.Sound w := by
  have hl := (((placed_iff _).1 reset_placed).lanes .lane0)
  exact { hl with start := fun _ => hl.start not_false }

theorem powerOn (s : State) : State.PlacedBut { State.reset with
    lane0 := s.lane0.powered
    lane1 := s.lane1.powered
    gate := { Gate.reset with presence := s.gate.presence }
    freeCount := s.freeCount
    pending := s.pending } p := by
  refine .of_reset rfl ?_ fun m => by cases m <;> exact powered_sound _
  rw [State.roster, State.roster, Roster.mk.injEq]
  refine ⟨rfl, ?_, ?_, ?_, rfl, rfl, rfl, rfl⟩ <;> funext m <;> cases m <;> rfl

end State.PlacedBut
end Sys2Proof.Machine
end

section
/-!
Every command's answer, every row and every step keep every board in its place (O58).
-/

namespace Sys2Proof.Machine

open Sys2Proof

variable {s t u : State} {l : LaneId} {n : Serial} {b : BoardRecord} {p : LaneId → Prop}

namespace State.PlacedBut

theorem modPort {q : Port} {f : PortState → PortState} (h : s.PlacedBut p) : (s.modPort q f).PlacedBut p where
  distinct := by simpa using h.distinct
  agrees := by simpa using h.agrees
  lanes := fun l => by simpa using h.lanes l

theorem setStore {st : RecipeStore} (h : s.PlacedBut p) : State.PlacedBut { s with store := st } p :=
  h.of_same rfl rfl rfl rfl

theorem setSettings {c : LineSettings} (h : s.PlacedBut p) : State.PlacedBut { s with settings := c } p :=
  h.of_same rfl rfl rfl rfl

end State.PlacedBut

/-! ### Answers -/

/-- R4: what a command leaves has every board in its place. -/
def Answer.Places (a : Answer) : Prop := a.st.PlacedBut fun _ => False

namespace Answer.Places

theorem ite {c : Prop} [Decidable c] {a a' : Answer} (h : c → a.Places) (g : ¬c → a'.Places) :
    (if c then a else a').Places := by
  split
  · exact h ‹_›
  · exact g ‹_›

theorem accept {d : List Byte} (h : s.PlacedBut fun _ => False) : (Machine.accept d s).Places := h

theorem refuse {e : Status} (h : s.PlacedBut fun _ => False) : (Machine.refuse e s).Places := h

/-- A check that refuses before the rest. -/
theorem orRefuse {c : Prop} [Decidable c] {e : Status} {a : Answer} (h : s.PlacedBut fun _ => False)
    (g : ¬c → a.Places) : (if c then Machine.refuse e s else a).Places := .ite (fun _ => h) g

end Answer.Places

section Answers

variable {q : Port} {d : List Byte}

theorem ackEventsAnswer_places (h : s.PlacedBut fun _ => False) : (ackEventsAnswer q d s).Places := by
  refine .orRefuse h fun _ => ?_
  split
  · exact h
  · exact .accept h.modPort

theorem setNoticeMaskAnswer_places (h : s.PlacedBut fun _ => False) : (setNoticeMaskAnswer q d s).Places := by
  refine .orRefuse h fun _ => ?_
  split
  · exact h
  · exact .accept h.modPort

theorem getEventsAnswer_places (h : s.PlacedBut fun _ => False) : (getEventsAnswer q d s).Places := by
  refine .orRefuse h fun _ => .ite (fun _ => h) fun _ => ?_
  split <;> exact h

theorem setLineConfigAnswer_places (h : s.PlacedBut fun _ => False) : (setLineConfigAnswer q d s).Places := by
  refine .orRefuse h fun _ => .orRefuse h fun _ => ?_
  split
  · exact h
  · exact .orRefuse h fun _ => .accept (.reevaluate (.judgeZones (.setSettings h)))

theorem writeRecipeAnswer_places (h : s.PlacedBut fun _ => False) : (writeRecipeAnswer q d s).Places := by
  refine .orRefuse h fun _ => .orRefuse h fun _ => ?_
  split
  · exact h
  · refine .orRefuse h fun _ => .orRefuse h fun _ => ?_
    split
    · exact h
    · split
      · exact h
      · exact .orRefuse h fun _ => .orRefuse h fun _ => .accept h.setStore

theorem readRecipeAnswer_places (h : s.PlacedBut fun _ => False) : (readRecipeAnswer q d s).Places := by
  refine .orRefuse h fun _ => .orRefuse h fun _ => ?_
  dsimp only
  split
  · exact h
  · refine .orRefuse h fun _ => .orRefuse h fun _ => .ite (fun _ => h) fun _ => .ite (fun _ => h) fun _ => ?_
    split <;> exact h

theorem writeFeatureMapAnswer_places (h : s.PlacedBut fun _ => False) : (writeFeatureMapAnswer q d s).Places := by
  refine .orRefuse h fun _ => .orRefuse h fun _ => ?_
  split
  · exact h
  · refine .orRefuse h fun _ => ?_
    split
    · exact h
    · exact .orRefuse h fun _ => .orRefuse h fun _ => .accept h.setStore

theorem bindAliasAnswer_places (h : s.PlacedBut fun _ => False) : (bindAliasAnswer q d s).Places := by
  refine .orRefuse h fun _ => .orRefuse h fun _ => ?_
  dsimp only
  split
  · exact h
  · refine .orRefuse h fun _ => .orRefuse h fun _ => ?_
    split
    · exact .accept h.setStore
    · exact .ite (fun _ => .accept h.setStore) fun _ => h

theorem unbindAliasAnswer_places (h : s.PlacedBut fun _ => False) : (unbindAliasAnswer q d s).Places := by
  refine .orRefuse h fun _ => .orRefuse h fun _ => .orRefuse h fun _ => .orRefuse h fun _ => ?_
  split
  · exact h
  · exact .accept h.setStore

theorem clearRecipesAnswer_places (h : s.PlacedBut fun _ => False) : (clearRecipesAnswer q d s).Places :=
  .orRefuse h fun _ => .orRefuse h fun _ => .orRefuse h fun _ => .orRefuse h fun _ => .accept h.setStore

theorem announceAnswer_places (h : s.PlacedBut fun _ => False) : (announceAnswer q d s).Places := by
  refine .orRefuse h fun _ => .orRefuse h fun _ => ?_
  split
  · exact h
  · refine .orRefuse h fun _ => .orRefuse h fun _ => .orRefuse h fun hnew => .orRefuse h fun _ => ?_
    split
    · exact h
    · exact .orRefuse h fun _ => .orRefuse h fun _ => .orRefuse h fun _ =>
        .accept (h.announce (f := newRecord ..) (by simpa [newRecord] using hnew) rfl nofun)

theorem withdrawAnswer_places (h : s.PlacedBut fun _ => False) : (withdrawAnswer q d s).Places := by
  refine .orRefuse h fun _ => .orRefuse h fun _ => .orRefuse h fun _ => ?_
  split
  · exact h
  · exact .ite (fun hb => .accept (h.withdraw ‹_› hb.2)) fun _ => h

theorem getBoardAnswer_places (h : s.PlacedBut fun _ => False) : (getBoardAnswer d s).Places := by
  refine .orRefuse h fun _ => .orRefuse h fun _ => ?_
  split <;> exact h

theorem laneEnableAnswer_places (h : s.PlacedBut fun _ => False) : (laneEnableAnswer q d s).Places := by
  refine .orRefuse h fun _ => .orRefuse h fun _ => ?_
  split
  · exact h
  · exact .orRefuse h fun _ => .accept h.enable

theorem laneDisableAnswer_places (h : s.PlacedBut fun _ => False) : (laneDisableAnswer d s).Places := by
  refine .orRefuse h fun _ => ?_
  split
  · exact h
  · exact .accept h.disableLane

theorem laneResetAnswer_places (h : s.PlacedBut fun _ => False) : (laneResetAnswer q d s).Places := by
  refine .orRefuse h fun _ => .orRefuse h fun _ => ?_
  split
  · exact h
  · exact .accept h.resetLane

theorem setLaneConfigAnswer_places (h : s.PlacedBut fun _ => False) : (setLaneConfigAnswer q d s).Places := by
  refine .orRefuse h fun _ => .orRefuse h fun _ => ?_
  split
  · exact h
  · exact .orRefuse h fun _ => .orRefuse h fun _ => .accept h.configureLane

theorem clearNozzleAnswer_places (h : s.PlacedBut fun _ => False) : (clearNozzleAnswer q d s).Places := by
  refine .orRefuse h fun _ => .orRefuse h fun _ => ?_
  split
  · exact h
  · exact .ite (fun _ => .accept (.modMeter (.modCtl rfl rfl (fun hl => { hl with }) h))) fun _ => h

theorem pathBeginAnswer_places (h : s.PlacedBut fun _ => False) : (pathBeginAnswer q d s).Places := by
  refine .orRefuse h fun _ => .orRefuse h fun _ => ?_
  split
  · exact h
  · refine .orRefuse h fun _ => .orRefuse h fun _ => .orRefuse h fun hempty => ?_
    have hx : (s.lane _).path.state = .empty := not_not.1 hempty
    split
    · exact h
    · refine .ite (fun hstate => ?_) fun _ => .accept (h.openPath hx)
      split
      · exact h
      · exact .ite (fun _ => .accept (h.openPath hx)) fun _ =>
          .refuse (h.holdMismatch ‹_› hstate ((h.lanes _).closed_of_empty hx))

theorem segmentsAnswer_places (h : s.PlacedBut fun _ => False) : (segmentsAnswer q d s).Places := by
  refine .orRefuse h fun _ => .orRefuse h fun _ => ?_
  split
  · exact h
  · refine .orRefuse h fun hopened => ?_
    split
    · exact h
    · rename_i hparsed
      obtain ⟨i, -, hparsed⟩ := Option.bind_eq_some_iff.1 hparsed
      exact .orRefuse h fun _ => h.loadPath (not_not.1 hopened) (parseSegments_numbers hparsed)

theorem pathEndAnswer_places (h : s.PlacedBut fun _ => False) : (pathEndAnswer q d s).Places := by
  refine .orRefuse h fun _ => .orRefuse h fun _ => ?_
  split
  · exact h
  · exact .orRefuse h fun hn => .accept (h.completePath (by tauto))

theorem pathKeepAnswer_places (h : s.PlacedBut fun _ => False) : (pathKeepAnswer q d s).Places := by
  refine .orRefuse h fun _ => .orRefuse h fun _ => ?_
  split
  · exact .orRefuse h fun hx => .accept (h.keepPath hx)
  · exact h

theorem pathDiscardAnswer_places (h : s.PlacedBut fun _ => False) : (pathDiscardAnswer q d s).Places := by
  refine .orRefuse h fun _ => .orRefuse h fun _ => ?_
  split
  · exact h
  · exact .orRefuse h fun hx => .accept (h.emptyPath fun hs => hx (.inr hs))

theorem ovenAcceptAnswer_places (h : s.PlacedBut fun _ => False) : (ovenAcceptAnswer q d s).Places := by
  refine .orRefuse h fun _ => .orRefuse h fun _ => ?_
  split
  · exact h
  · exact .orRefuse h fun _ => .accept (.ite (fun _ => .reevaluate (.ovenAccept h)) fun _ => .ovenAccept h)

theorem setOvenLayoutAnswer_places (h : s.PlacedBut fun _ => False) : (setOvenLayoutAnswer q d s).Places :=
  .orRefuse h fun _ => .orRefuse h fun _ => .orRefuse h fun _ => .orRefuse h fun _ => .orRefuse h fun _ =>
    .orRefuse h fun _ => .accept (.judgeZones (.setOven rfl h))

/-- R174 conditions 1 and 2: a disposable board is HELD. -/
theorem disposable_held {a : Action} (h : s.disposable a n = .ok b) :
    s.record? b.serial = some b ∧ b.serial = n ∧ b.stage = .held := by
  unfold State.disposable at h
  cases hr : s.record? n with
  | none => simp [hr] at h
  | some c =>
    simp only [hr] at h
    split_ifs at h with h1
    cases h
    obtain rfl := record?_serial s n b hr
    exact ⟨hr, rfl, not_not.1 h1⟩

theorem resprayAnswer_places {areas : List (Fin 12)} (h : s.PlacedBut fun _ => False)
    (hb : s.record? b.serial = some b) (hx : b.stage = .held) : (resprayAnswer b l areas s).Places :=
  .orRefuse h fun _ => .orRefuse h fun _ => .orRefuse h fun _ => .orRefuse h fun _ =>
    .accept (h.disposeRespray hb hx)

theorem disposeAnswer_places (h : s.PlacedBut fun _ => False) : (disposeAnswer q d s).Places := by
  refine .orRefuse h fun _ => ?_
  split
  · exact h
  · dsimp only
    split
    · exact h
    · refine .orRefuse h fun _ => ?_
      split
      · exact h
      · rename_i b hb
        obtain ⟨hrec, -, hheld⟩ := disposable_held hb
        split
        · exact .accept (h.disposeOut hrec hheld)
        · exact .accept (h.disposeOut hrec hheld)
        · exact resprayAnswer_places h hrec hheld
        · exact .orRefuse h fun he => .accept (h.disposeRecure hrec hheld (by simpa using he))

/-- Every answer leaves every board in its place. -/
theorem commandAnswer_places {f : Frame} (h : s.PlacedBut fun _ => False) : (commandAnswer q f s).Places := by
  unfold commandAnswer
  split
  case h_1 => exact .orRefuse h fun _ => h
  case h_2 => exact .orRefuse h fun _ => h
  case h_3 => exact getEventsAnswer_places h
  case h_4 => exact ackEventsAnswer_places h
  case h_5 => exact setNoticeMaskAnswer_places h
  case h_6 => exact getBoardAnswer_places h
  case h_7 => exact .orRefuse h fun _ => h
  case h_8 => exact setLineConfigAnswer_places h
  case h_9 => exact setLaneConfigAnswer_places h
  case h_10 => exact setOvenLayoutAnswer_places h
  case h_11 => exact ovenAcceptAnswer_places h
  case h_12 => exact writeRecipeAnswer_places h
  case h_13 => exact readRecipeAnswer_places h
  case h_14 => exact bindAliasAnswer_places h
  case h_15 => exact unbindAliasAnswer_places h
  case h_16 => exact writeFeatureMapAnswer_places h
  case h_17 => exact clearRecipesAnswer_places h
  case h_18 => exact laneEnableAnswer_places h
  case h_19 => exact laneDisableAnswer_places h
  case h_20 => exact laneResetAnswer_places h
  case h_21 => exact .orRefuse h fun _ => .orRefuse h fun _ => .accept (.resetLine s)
  case h_22 => exact clearNozzleAnswer_places h
  case h_23 => exact announceAnswer_places h
  case h_24 => exact withdrawAnswer_places h
  case h_25 => exact pathBeginAnswer_places h
  case h_26 => exact segmentsAnswer_places h
  case h_27 => exact pathEndAnswer_places h
  case h_28 => exact pathKeepAnswer_places h
  case h_29 => exact pathDiscardAnswer_places h
  case h_30 => exact disposeAnswer_places h
  case h_31 => exact h

end Answers

/-- A command is taken and answered. -/
theorem takeCommand_places {q : Port} {f : Frame} {body : State → Answer} (h : s.PlacedBut fun _ => False)
    (hbody : ∀ u : State, (u.PlacedBut fun _ => False) → (body u).Places) :
    (takeCommand q f body s).PlacedBut fun _ => False := by
  cases ht : takeable q f s with
  | false =>
    rw [takeCommand_of_not_takeable q f body s ht]
    exact h
  | true =>
    obtain ⟨rest, hready⟩ := (takeable_iff_ready q f s).1 ht
    rw [takeCommand_of_ready q f rest body s hready]
    exact .modPort (hbody _ h.modPort)

/-! ### Rows and steps -/

/-- R115: a sequencer in a phase runs a loaded segment. -/
theorem State.PlacedBut.phase_segment {x : SeqState} (h : s.PlacedBut p) (hd : s.phaseDue l x = true)
    (hx : x ≠ .closed) : (s.lane l).ctl.state = .spraying ∧ (s.lane l).path.seq ≠ .closed ∧
      ∃ seg, (s.lane l).path.executingSegment = some seg := by
  simp only [State.phaseDue, Bool.and_eq_true, decide_eq_true_eq] at hd
  have hn : (s.lane l).path.seq ≠ .closed := hd.1 ▸ hx
  obtain ⟨hspray, hexec, h1, h2⟩ := (h.lanes l).running hn
  exact ⟨hspray, hn, (h.lanes l).path.executing hexec h1 h2⟩

theorem execOpenDelayEnd_places (h : s.PlacedBut fun _ => False) : State.PlacesNext (execOpenDelayEnd l s) := by
  unfold execOpenDelayEnd
  split
  · rename_i hd
    obtain ⟨-, hn, seg, hseg⟩ := h.phase_segment hd nofun
    rw [hseg]
    exact .next (.serveStart ((h.weaken fun _ => False.elim).endOpenDelay hn (.inl rfl)))
  · exact .next h

theorem execOpenEnd_places (h : s.PlacedBut fun _ => False) : State.PlacesNext (execOpenEnd l s) := by
  unfold execOpenEnd
  split
  · rename_i hd
    obtain ⟨-, hn, seg, hseg⟩ := h.phase_segment hd nofun
    rw [hseg]
    exact .next (.serveStart ((h.weaken fun _ => False.elim).enterClosing hn (.inl rfl)))
  · exact .next h

theorem execClosingEnd_places (h : s.PlacedBut fun _ => False) : State.PlacesNext (execClosingEnd l s) :=
  .whenDue h fun hd =>
    .serveStart ((h.weaken fun _ => False.elim).finishSegment (h.phase_segment hd nofun).1 (.inl rfl))

theorem isSome_of_timerDue {now : Time} {x : Option Time} (h : timerDue now x = true) : x.isSome = true := by
  cases x with
  | none => exact absurd h nofun
  | some t => rfl

theorem execCheckTimerExpiry_places (h : s.PlacedBut fun _ => False) : State.PlacesNext (execCheckTimerExpiry l s) :=
  .whenDue h fun hd => h.endCheck ((h.lanes l).check.1 (isSome_of_timerDue hd))

/-- Every row leaves every board in its place; a frame's row by its answer. -/
theorem exec_places {i : Instr} (h : s.PlacedBut fun _ => False) : State.PlacesNext (exec i s) := by
  cases hf : frameOf i with
  | some pf =>
    obtain ⟨q, f⟩ := pf
    rcases exec_of_frameOf hf s with he | ⟨he, -⟩
    · rw [he]
      exact .next (takeCommand_places h fun u hu => commandAnswer_places hu)
    · rw [he]
      exact .next h
  | none =>
    cases i
    case powerOn => exact .next (.powerOn s)
    case frameReceived => exact .next h.modPort
    case frameByteReceived => exact .next h.modPort
    case frameSent => exact .next h.modPort
    case frameGapExpiry => exact .whenDue h fun _ => h.modPort
    case clearTimerExpiry => exact .whenDue h fun _ => .raise h.setStore
    case slotAddressChange => exact .next (.modStation (fun hl => { hl with }) h)
    case stationGapExpiry => exact .whenDue h fun _ => .loseRecord (.setAssembler h)
    case startStrobe => exact .next h.stationByte
    case endStrobe => exact .next h.stationByte
    case inspectReading => exact .next h.stationByte
    case arrived => exact .next h.stationByte
    case cleared => exact .next h.stationByte
    case stationByteWritten => exact .next h.stationByte
    case paceTimerExpiry => exact .whenDue h fun _ => h.paceExpired
    case checkTimerExpiry => exact execCheckTimerExpiry_places h
    case ejectTimerExpiry => exact .whenDue h fun hd => h.ejectExpired (isSome_of_timerDue hd)
    case openDelayEnd => exact execOpenDelayEnd_places h
    case openEnd => exact execOpenEnd_places h
    case closingEnd => exact execClosingEnd_places h
    case segmentGapExpiry => exact .whenDue h fun hd => h.gapExpired (isSome_of_timerDue hd)
    case flowPulse => exact .next h.flowPulse
    case flashReadyExpiry => exact execFlashReadyExpiry_places h
    case laneDeadlineExpiry => exact execLaneDeadlineExpiry_places h
    case returnDeadlineExpiry => exact execReturnDeadlineExpiry_places h
    case returnPresenceChange => exact execReturnPresenceChange_places h
    case ovenEntryEvent => exact execOvenEntryEvent_places h
    case transferTimerExpiry => exact execTransferTimerExpiry_places h
    case encoderPulse => exact execEncoderPulse_places h
    case ovenSensorRecord => exact .next h.sensorByte
    case ovenSensorByteReceived => exact .next h.sensorByte
    case ovenSensorGapExpiry => exact .whenDue h fun _ => .setOven rfl h
    case zoneStaleExpiry => exact .whenDue h fun _ => h.makeStale
    case doseTick => exact .whenDue h fun _ => .doseAll (.setOven rfl h)
    case ovenExitEvent => exact execOvenExitEvent_places h
    case escalationDeadlineExpiry => exact execEscalationDeadlineExpiry_places h
    case sprayEndTimeOld => exact .whenDue h fun _ => .modRecord (fun _ => ⟨rfl, rfl⟩) h
    all_goals cases hf

theorem step_places (h : s.PlacedBut fun _ => False) : State.PlacesNext (step s) := by
  unfold step
  split
  · exact exec_places (h.of_same rfl rfl rfl rfl)
  · split
    · exact exec_places h
    · exact .next (h.of_same rfl rfl rfl rfl)

end Sys2Proof.Machine

open Sys2Proof Machine in
/-- Settles O58: each row is made of operations that take a board out of one structure and put it into another. -/
theorem Sys2Proof.boardsStayInTheirPlaces : Obligations.BoardsStayInTheirPlaces :=
  fun s t h hstep => (placed_iff t).2 (step_places ((placed_iff s).1 h) t hstep)
end

section
/-!
GET_BOARD's reply (O23), spray end times that become old and holds that escalate (O56), and hold requests by class
(O34).
-/

namespace Sys2Proof.Machine

open Sys2Proof

variable {s : State} {n : Nat} {b : BoardRecord}

/-! ### The record as GET_BOARD replies it (R54, R55, 3.7.1) -/

/-- A flag and a value of four bytes: the value, or zeros where there is none. -/
def optionBytes (v : Option Nat) : List Byte := flagByte v.isSome :: bytes32 (v.getD 0)

@[simp] theorem optionBytes_length (v : Option Nat) : (optionBytes v).length = 5 := rfl

/-- R54: the reply field by field, the spray end time and the oven position each with its flag. -/
theorem boardBytes_eq (s : State) (b : BoardRecord) :
    s.boardBytes b = bytes32 b.serial ++
      [toByte b.slot.val, toByte (laneNumber b.lane), toByte b.stage.code, toByte b.location.code, toByte b.rework,
        flagByte b.coated, flagByte b.cured] ++
      bytes16 (setWeight b.passAreas) ++ (b.verdicts.toList.map fun v => toByte v.code) ++
      b.tallies.toList.flatMap bytes32 ++ bytes16 b.drip ++
      optionBytes (b.sprayEnd.map fun e => e.time.toNat) ++ bytes32 b.dose ++ optionBytes (s.ovenPosition b.serial) ++
      bytes32 (setWeight b.reasons) ++ bytes16 (attachedWeight b .filmLow b.filmLow) ++
      bytes16 (attachedWeight b .filmHigh b.filmHigh) ++ bytes16 (attachedWeight b .maskCritical b.maskCritical) := by
  simp [State.boardBytes, optionBytes]

theorem boardBytes_length (s : State) (b : BoardRecord) : (s.boardBytes b).length = 103 := by
  have htallies : (b.tallies.toList.flatMap bytes32).length = 48 := by
    rw [length_flatMap_const bytes32_length, Vector.length_toList]
  simp [boardBytes_eq, htallies]

theorem taken_boardBytes (s : State) (p : Port) (rest : List Frame) (b : BoardRecord) :
    (s.taken p rest).boardBytes b = s.boardBytes b := by cases p <;> rfl

theorem getBoardAnswer_unknown (h1 : 1 ≤ n) (h2 : n < 2 ^ 32) (hr : s.record? n = none) :
    getBoardAnswer (bytes32 n) s = refuse .notFound s := by
  have hn : word32At (bytes32 n) 0 = n := word32At_eq h2 []
  simp [getBoardAnswer, hn, hr, show n ≠ 0 by omega]

theorem getBoardAnswer_known (h1 : 1 ≤ n) (h2 : n < 2 ^ 32) (hr : s.record? n = some b) :
    getBoardAnswer (bytes32 n) s = accept (s.boardBytes b) s := by
  have hn : word32At (bytes32 n) 0 = n := word32At_eq h2 []
  simp [getBoardAnswer, hn, hr, show n ≠ 0 by omega]

/-! ### Times reached (R44, R173) -/

/-- R44: the spray end time of a record that is not old is due a day after it. -/
theorem sprayEndDue_iff {now : Time} {e : SprayEnd} (hb : b.sprayEnd = some e) (he : e.old = false) :
    sprayEndDue now b = true ↔ 86400000 ≤ (now - e.time).toNat := by
  rw [sprayEndDue, hb, Option.any_some, he, Bool.not_false, Bool.true_and, decide_eq_true_eq]
  rfl

/-- Two changes of a record that agree on the one record of the serial agree. -/
theorem modRecord_congr {f g : BoardRecord → BoardRecord} (hd : (s.records.map (·.serial)).Nodup)
    (hr : s.record? n = some b) (hf : f b = g b) : s.modRecord n f = s.modRecord n g := by
  have hsame : (s.records.map fun r => if r.serial = n then f r else r) =
      s.records.map fun r => if r.serial = n then g r else r := by
    refine List.map_congr_left fun r hmem => ?_
    split
    · rename_i hn
      obtain rfl : b = r := Option.some.inj (hr.symm.trans ((record?_eq_some_iff hd).2 ⟨hmem, hn⟩))
      exact hf
    · rfl
  rw [State.modRecord, State.modRecord, hsame]

theorem escalationDue_of_reached {now : Time} {e : HoldEntry} {t : Time} (hx : e.state = .pending)
    (ht : e.deadline = some t) (hr : reached now t = true) : escalationDue now e = true := by
  simp [escalationDue, hx, ht, timerDue, hr]

/-! ### Hold requests (R168 to R172) -/

/-- R64, R170: a lane-class request for a board with a record. -/
theorem laneHold_of_record? {l : LaneId} (hb : s.record? n = some b) :
    s.laneHold l n = if 3 ≤ s.freeEntries then ((s.letGo l).grantHold b (.lane l)).enterEjecting l (some n)
      else raise .laneBlocked (some l) n s.freeEntries
        (((s.letGo l).modRecord n fun r => { r with location := .lane l }).setLaneState l .blocked) := by
  rw [State.laneHold, hb]

/-- R65, R172: the retry of a BLOCKED lane. -/
theorem retryLane_of_board {l : LaneId} (hx : (s.lane l).ctl.state = .blocked) (hb : s.board l = some b) :
    s.retryLane l = if 3 ≤ s.freeEntries then (s.grantHold b (.lane l)).enterEjecting l (some b.serial) else s := by
  rw [State.retryLane, hb]
  simp only [hx, true_and]

end Sys2Proof.Machine

open Sys2Proof Machine in
/-- Settles O23: the serial is read back from the payload, and the reply is the record field by field. -/
theorem Sys2Proof.getBoardRepliesRecord : Obligations.GetBoardRepliesRecord := by
  intro s p tag rest n h1 h2 hready answer
  cases hr : s.records.find? fun b => decide (b.serial = n) with
  | none =>
    rw [exec_sent hready rfl, getBoardAnswer_unknown h1 h2 (by rwa [taken_record?, record?_eq])]
    rfl
  | some b =>
    obtain rfl : b.serial = n := record?_serial s n b hr
    have hreply : ∀ fields, fields = 0#8 :: s.boardBytes b → fields.length = 104 ∧
        exec (.getBoard p tag (bytes32 b.serial)) s = answer fields := by
      rintro fields rfl
      rw [exec_sent hready rfl, getBoardAnswer_known h1 h2 (by rwa [taken_record?, record?_eq]), taken_boardBytes]
      exact ⟨by rw [List.length_cons, boardBytes_length], rfl⟩
    refine hreply _ (congrArg (0#8 :: ·) ?_)
    rw [boardBytes_eq, State.ovenPosition]
    cases b.sprayEnd <;> cases (s.oven.queue.find? (·.serial == b.serial)).map (·.position) <;> rfl

open Sys2Proof Machine in
/-- Settles O56: the due time is the guard of each row, and the record of a serial is one. -/
theorem Sys2Proof.oldSprayEndsAndHoldEscalations : Obligations.OldSprayEndsAndHoldEscalations := by
  refine ⟨fun s n b e hd hmem hn hspray hold => ?_, fun s e b t he hb hx ht hreached => ?_⟩
  · have hr : s.record? n = some b := (record?_eq_some_iff hd).2 ⟨hmem, hn⟩
    have hdue := sprayEndDue_iff (now := s.clock) hspray hold
    rw [exec, execSprayEndTimeOld, hr, Option.any_some, ← apply_ite Host.Outcome.next,
      modRecord_congr (g := fun r => { r with sprayEnd := some ⟨e.time, true⟩ }) hd hr (by simp [hspray])]
    simp only [hdue]
    rfl
  · rw [exec, execEscalationDeadlineExpiry, he, hb]
    dsimp only
    rw [if_pos (escalationDue_of_reached hx ht hreached)]
    rfl

open Sys2Proof Machine in
/-- Settles O34: the two classes' thresholds, each with the entry it grants. -/
theorem Sys2Proof.holdRequestIsSettledByClass : Obligations.HoldRequestIsSettledByClass := by
  intro s l n b hb free wet limit entry held ejecting x u
  obtain rfl := record?_serial s n b hb
  refine ⟨?_, fun loc => ?_, fun hx hboard => ?_⟩
  · rw [laneHold_of_record? hb]
    cases l <;> rfl
  · have hremove : s.records.filter (fun r => r.serial != b.serial) =
        s.records.filter fun r => decide (r.serial ≠ b.serial) :=
      List.filter_congr fun r _ => bne_eq_decide_ne r.serial b.serial
    rw [State.ovenHold, State.overflow, State.removeRecord, hremove]
    rfl
  · rw [retryLane_of_board hx hboard]
    rfl
end

section
/-!
DISPOSE RESPRAY and RECURE (O54).
-/

namespace Sys2Proof.Machine

open Sys2Proof

variable {s : State} {n : Nat} {b : BoardRecord} {a : Action} {p : Port} {d : List Byte}

/-! ### The conditions (R174, R175) -/

/-- R175: an action is refused for a reason outside its allowed codes. -/
theorem actionAllowed_false_iff {allowed : List Nat} (ha : ∀ i : Fin 20, a.allowedBy[i] = true ↔ i.val + 1 ∈ allowed)
    (v : FlagSet 20) : actionAllowed a v = false ↔ ∃ i : Fin 20, v[i] = true ∧ i.val + 1 ∉ allowed := by
  simp only [actionAllowed, List.all_eq_false, List.mem_finRange, true_and, ← ha]
  simp

theorem respray_allowedBy (i : Fin 20) :
    Action.respray.allowedBy[i] = true ↔ i.val + 1 ∈ [1, 2, 3, 4, 5, 6, 7, 8, 9, 10, 11, 13, 14, 15, 17, 19] := by
  revert i
  decide

theorem recure_allowedBy (i : Fin 20) : Action.recure.allowedBy[i] = true ↔ i.val + 1 ∈ [13, 14, 15, 17] := by
  revert i
  decide

theorem disposable_unknown (hr : s.record? n = none) : s.disposable a n = .error .notFound := by
  simp [State.disposable, hr]

/-- R174 conditions 2 to 5 of an action that sends a board back; 3 and 4 are refused alike. -/
theorem disposable_rework {barred : Prop} [Decidable barred] (ha : a = .respray ∨ a = .recure)
    (hr : s.record? n = some b)
    (hbarred : barred ↔
      (s.hold? n).any (fun e => decide (e.state = .escalated)) = true ∨ actionAllowed a b.reasons = false) :
    s.disposable a n =
      if b.stage ≠ .held then .error .wrongState
      else if barred then .error .notAllowed
      else if 2 ≤ b.rework then .error .limit
      else .ok b := by
  have hscrap : a ≠ .scrap := by rintro rfl; simp at ha
  simp only [State.disposable, hr, hbarred, ite_or, ha, hscrap, ne_eq, not_false_eq_true, and_true, true_and,
    Bool.not_eq_eq_eq_not, Bool.not_true]

/-! ### The payloads read back (R174) -/

section Payload

variable {l : LaneId} {areas : List (Fin 12)}

/-- The payload of a DISPOSE RESPRAY. -/
def resprayPayload (n : Nat) (l : LaneId) (areas : List (Fin 12)) : List Byte :=
  bytes32 n ++ [2#8, toByte (laneNumber l), toByte areas.length] ++ areas.map fun a => toByte a.val

theorem disposeLength_resprayPayload (h : areas.length ≤ 12) :
    disposeLength (resprayPayload n l areas) = .ok .respray := by
  have hlen : (resprayPayload n l areas).length = 7 + areas.length := by simp [resprayPayload]; omega
  have hcount : (byteAt (resprayPayload n l areas) 6).toNat = areas.length := toByte_toNat (by omega)
  have haction : actionOf (byteAt (resprayPayload n l areas) 4) = some .respray := rfl
  rw [disposeLength, haction, hlen, hcount, if_neg (by omega)]
  dsimp only
  rw [if_neg (by omega), if_neg (by omega), if_neg (by omega)]

theorem word32At_resprayPayload (h : n < 2 ^ 32) : word32At (resprayPayload n l areas) 0 = n := by
  rw [resprayPayload, List.append_assoc]
  exact word32At_eq h _

theorem resprayAreas_resprayPayload : resprayAreas (resprayPayload n l areas) = some areas := by
  have hdrop : (resprayPayload n l areas).drop 7 = areas.map fun a => toByte a.val := rfl
  rw [resprayAreas, hdrop, mapM_some_iff, List.forall₂_map_left_iff, List.forall₂_same]
  exact fun x _ => finOf_toByte x (by decide)

end Payload

/-! ### The answer to a DISPOSE that sends a board back -/

/-- The answer after the common conditions: their refusal, or the action's own answer for the board. -/
def afterConditions (s : State) (x : Except Status BoardRecord) (go : BoardRecord → Answer) : Answer :=
  match x with
  | .error e => refuse e s
  | .ok b => go b

@[simp] theorem afterConditions_error (s : State) (e : Status) (go : BoardRecord → Answer) :
    afterConditions s (.error e) go = refuse e s := rfl

@[simp] theorem afterConditions_ok (s : State) (b : BoardRecord) (go : BoardRecord → Answer) :
    afterConditions s (.ok b) go = go b := rfl

theorem afterConditions_ite (s : State) (c : Prop) [Decidable c] (x y : Except Status BoardRecord)
    (go : BoardRecord → Answer) :
    afterConditions s (if c then x else y) go = if c then afterConditions s x go else afterConditions s y go := by
  split <;> rfl

/-- R7: on the Line Port DISPOSE needs remote disposition. -/
theorem dispose_port (h : p = .bench ∨ s.settings.remoteDisposition = true) :
    ¬ (p = .line ∧ s.settings.remoteDisposition = false) := by
  rintro ⟨rfl, hoff⟩
  simp [hoff] at h

theorem disposeAnswer_respray {l : LaneId} {areas : List (Fin 12)} (h1 : 1 ≤ n) (h2 : n < 2 ^ 32)
    (h : p = .bench ∨ s.settings.remoteDisposition = true) (hareas : areas.length ≤ 12) :
    disposeAnswer p (resprayPayload n l areas) s =
      afterConditions s (s.disposable .respray n) fun b => resprayAnswer b l areas s := by
  have hlane : laneOf (byteAt (resprayPayload n l areas) 5) = some l := laneOf_laneNumber l
  rw [disposeAnswer, if_neg (dispose_port h), disposeLength_resprayPayload hareas]
  dsimp only
  rw [if_pos rfl, hlane, Option.bind_some, resprayAreas_resprayPayload, Option.map_some, word32At_resprayPayload h2]
  dsimp only
  rw [if_neg (by omega)]
  cases s.disposable .respray n <;> rfl

theorem disposeAnswer_recure (h1 : 1 ≤ n) (h2 : n < 2 ^ 32) (h : p = .bench ∨ s.settings.remoteDisposition = true) :
    disposeAnswer p (bytes32 n ++ [3#8]) s = afterConditions s (s.disposable .recure n) fun b =>
      if s.gate.station.isSome then refuse .busy s else accept [toByte (b.rework + 1)] (s.disposeRecure b) := by
  have hlength : disposeLength (bytes32 n ++ [3#8]) = .ok .recure := rfl
  rw [disposeAnswer, if_neg (dispose_port h), hlength]
  dsimp only
  rw [if_neg (by simp), word32At_eq h2]
  dsimp only
  rw [if_neg (by omega)]
  cases s.disposable .recure n <;> rfl

/-! ### The board's move (R177, R178) -/

theorem removeHold_eq (s : State) (n : Serial) :
    s.removeHold n = { s with holds := s.holds.filter fun e => decide (e.serial ≠ n) } := by
  rw [State.removeHold, List.filter_congr fun e _ => bne_eq_decide_ne e.serial n]

theorem setOf_contains (areas : List (Fin 12)) :
    (setOf 12 fun a => areas.contains a) = Vector.ofFn fun a => decide (a ∈ areas) :=
  congrArg Vector.ofFn (funext fun a => by simp)

/-- R177: RESPRAY's own conditions, on the areas as they are listed. -/
theorem resprayAnswer_eq (b : BoardRecord) (l : LaneId) (areas : List (Fin 12)) (s : State) :
    resprayAnswer b l areas s =
      if ∃ a ∈ areas, (s.store.slots[b.slot]).areasD.length ≤ a.val then refuse .badValue s
      else if (s.lane l).ctl.state = .off then refuse .wrongState s
      else if (s.lane l).ctl.serviceDue then refuse .service s
      else if 4 ≤ (s.lane l).ctl.queue.length then refuse .full s
      else accept [toByte (b.rework + 1)] (s.disposeRespray b l (Vector.ofFn fun a => decide (a ∈ areas))) := by
  have hareas : (¬ areas.all (fun a => a.val < (s.recipe b.slot).areasD.length) = true) ↔
      ∃ a ∈ areas, (s.store.slots[b.slot]).areasD.length ≤ a.val := by
    simp only [List.all_eq_true, decide_eq_true_eq, not_forall, not_lt, exists_prop]
    rfl
  simp only [resprayAnswer, hareas, setOf_contains]

/-- R142: the return station with a board `w` is REQUESTING. -/
theorem stationEntry_some (g : Gate) (w : Waiting) :
    Gate.stationEntry { g with station := some w } =
      if g.presence = true ∧ g.grant ≠ some .returnStation then some w else none := by
  by_cases hg : g.grant = some .returnStation
  · simp [Gate.stationEntry, Gate.stationState, hg]
  · cases g.presence <;> simp [Gate.stationEntry, Gate.stationState, hg]

/-- The state with a board moved from the hold table to the return station, waiting there as `w` (R178). -/
def State.sentToStation (s : State) (b : BoardRecord) (w : Waiting) : State :=
  { s with
    holds := s.holds.filter fun e => decide (e.serial ≠ b.serial)
    records := s.records.map fun r => if r.serial = b.serial then
      { r.clearReasons with rework := r.rework + 1, stage := .flashing, location := .returnStation } else r
    gate := { s.gate with station := some w } }

/-- R144, R178: the gate re-evaluates for a RECURE when the board's entry is present and eligible. -/
theorem disposeRecure_eq (s : State) (b : BoardRecord) :
    s.disposeRecure b = State.retryBlocked
      (if s.gate.presence = true ∧ s.gate.grant ≠ some .returnStation ∧ (s.stationWaiting b).eligible = true then
        (s.sentToStation b (s.stationWaiting b)).reevaluate
      else s.sentToStation b (s.stationWaiting b)) := by
  have hsent : ((s.removeHold b.serial).modRecord b.serial fun r => { r.clearReasons with
      rework := r.rework + 1, stage := .flashing, location := .returnStation }).enterStation b =
      s.sentToStation b (s.stationWaiting b) := by
    rw [removeHold_eq]
    rfl
  have hentry : (s.sentToStation b (s.stationWaiting b)).gate.stationEntry.any (·.eligible) = true ↔
      s.gate.presence = true ∧ s.gate.grant ≠ some .returnStation ∧ (s.stationWaiting b).eligible = true := by
    rw [State.sentToStation, stationEntry_some]
    split <;> simp_all
  rw [State.disposeRecure, hsent, State.reevaluateStation]
  simp only [hentry]

/-- R140: a board without a spray end time is ready at once. -/
theorem stationWaiting_dry (h : b.sprayEnd = none) :
    s.stationWaiting b = ⟨b.serial, s.clock, none, reached s.clock s.clock, true⟩ := by
  simp [State.stationWaiting, h, newWaiting]

/-- R44, R140: the times of a sprayed board, reckoned from its spray end time. -/
theorem stationWaiting_sprayed {e : SprayEnd} (h : b.sprayEnd = some e) :
    s.stationWaiting b =
      ⟨b.serial, if e.old then s.clock else after e.time ((s.recipe b.slot).timingD.flashOff * 1000),
        if b.coated = true ∧ b.cured = false then
          some (if e.old then s.clock else after e.time ((s.recipe b.slot).timingD.wetHold * 1000)) else none,
        reached s.clock (if e.old then s.clock else after e.time ((s.recipe b.slot).timingD.flashOff * 1000)),
        true⟩ := by
  simp [State.stationWaiting, h, newWaiting, State.fromSprayEnd, BoardRecord.wet]

end Sys2Proof.Machine

open Sys2Proof Machine in
/-- Settles O54: the payload is read back, and the conditions are those of R174, R177 and R178 in their order. -/
theorem Sys2Proof.resprayAndRecureSendTheBoardBack : Obligations.ResprayAndRecureSendTheBoardBack := by
  intro s p tag rest n h1 h2 hport u answer barred common back
  have hremote : p = .bench ∨ u.settings.remoteDisposition = true := by simpa [u] using hport
  have hbarred {a : Action} {allowed : List Nat} (ha : ∀ i : Fin 20, a.allowedBy[i] = true ↔ i.val + 1 ∈ allowed)
      (b : BoardRecord) : barred allowed b ↔
        (u.hold? n).any (fun e => decide (e.state = .escalated)) = true ∨ actionAllowed a b.reasons = false := by
    rw [actionAllowed_false_iff ha]
    simp only [barred, State.hold?, u, taken_holds]
    rfl
  refine ⟨?respray, fun hready => ?recure⟩
  case respray =>
    intro l areas hareas payload hready
    rw [exec_sent (body := disposeAnswer p payload) hready rfl]
    change Host.Outcome.next ((disposeAnswer p (resprayPayload n l areas) u).sent s p _) = _
    rw [disposeAnswer_respray h1 h2 hremote hareas]
    simp only [common]
    cases hr : s.records.find? fun b => decide (b.serial = n) with
    | none =>
      rw [disposable_unknown (by rwa [taken_record?])]
      rfl
    | some b =>
      obtain rfl : b.serial = n := record?_serial s n b hr
      rw [disposable_rework (.inl rfl) (by rwa [taken_record?]) (hbarred respray_allowedBy b)]
      simp only [afterConditions_ite, afterConditions_error, afterConditions_ok, sent_ite, resprayAnswer_eq,
        apply_ite Host.Outcome.next, State.disposeRespray, removeHold_eq, u, taken_store, taken_lane]
      rfl
  case recure =>
    rw [exec_sent (body := disposeAnswer p (bytes32 n ++ [3#8])) hready rfl, disposeAnswer_recure h1 h2 hremote]
    simp only [common]
    cases hr : s.records.find? fun b => decide (b.serial = n) with
    | none =>
      rw [disposable_unknown (by rwa [taken_record?])]
      rfl
    | some b =>
      obtain rfl : b.serial = n := record?_serial s n b hr
      rw [disposable_rework (.inr rfl) (by rwa [taken_record?]) (hbarred recure_allowedBy b)]
      simp only [afterConditions_ite, afterConditions_error, afterConditions_ok, sent_ite,
        apply_ite Host.Outcome.next, Option.isSome_iff_ne_none, disposeRecure_eq, State.sentToStation, u, taken_gate,
        taken_clock]
      cases hs : b.sprayEnd with
      | none =>
        simp only [stationWaiting_dry hs, taken_clock, ne_eq, not_true_eq_false, false_and, if_false]
        rfl
      | some e =>
        simp only [stationWaiting_sprayed hs, taken_clock, taken_recipe, ne_eq, reduceCtorEq, not_false_eq_true,
          true_and]
        rfl
end

section
/-!
While a record exists it only ages (O60): what each operation does to the numbers and flags of the records.
-/

namespace Sys2Proof.Machine

open Sys2Proof

/-! ### How a record ages (R40, R131, R162, R177, R178) -/

/-- What of a record ages: all that O60 speaks of, and the serial that names it. -/
def BoardRecord.aging (b : BoardRecord) : Serial × Fin 8 × Nat × Bool × Bool × Nat × Vector Nat 12 :=
  (b.serial, b.slot, b.rework, b.coated, b.cured, b.dose, b.tallies)

/-- The dose and the tallies of a record lie below where they saturate (R44). -/
structure BoardRecord.Bounded (b : BoardRecord) : Prop where
  dose : b.dose < 2 ^ 32
  tallies : ∀ a : Fin 12, b.tallies[a] < 2 ^ 32

/-- Record `b` becomes `c` in the course of time: the serial and the slot stay, nothing that is counted falls, and no
flag goes off. -/
structure BoardRecord.AgesTo (b c : BoardRecord) : Prop where
  serial : c.serial = b.serial
  slot : c.slot = b.slot
  rework : b.rework ≤ c.rework
  coated : b.coated = true → c.coated = true
  cured : b.cured = true → c.cured = true
  bounded : b.Bounded → c.Bounded
  dose : b.Bounded → b.dose ≤ c.dose
  tallies : b.Bounded → ∀ a : Fin 12, b.tallies[a] ≤ c.tallies[a]

namespace BoardRecord.AgesTo

variable {b c d : BoardRecord}

theorem refl (b : BoardRecord) : b.AgesTo b :=
  ⟨rfl, rfl, Nat.le_refl _, id, id, id, fun _ => Nat.le_refl _, fun _ _ => Nat.le_refl _⟩

theorem trans (h : b.AgesTo c) (g : c.AgesTo d) : b.AgesTo d where
  serial := g.serial.trans h.serial
  slot := g.slot.trans h.slot
  rework := h.rework.trans g.rework
  coated := g.coated ∘ h.coated
  cured := g.cured ∘ h.cured
  bounded := g.bounded ∘ h.bounded
  dose := fun hb => (h.dose hb).trans (g.dose (h.bounded hb))
  tallies := fun hb a => (h.tallies hb a).trans (g.tallies (h.bounded hb) a)

/-- A change of what does not age. -/
theorem unchanged (h : c.aging = b.aging) : b.AgesTo c := by
  simp only [BoardRecord.aging, Prod.mk.injEq] at h
  obtain ⟨hserial, hslot, hrework, hcoated, hcured, hdose, htallies⟩ := h
  exact ⟨hserial, hslot, hrework.ge, by simp [hcoated], by simp [hcured],
    fun hb => ⟨hdose ▸ hb.dose, htallies ▸ hb.tallies⟩, fun _ => hdose.ge, fun _ a => by rw [htallies]⟩

end BoardRecord.AgesTo

theorem le_satAdd {cap n : Nat} (h : n ≤ cap) (k : Nat) : n ≤ satAdd cap n k := Nat.le_min.2 ⟨h, Nat.le_add_right n k⟩

/-- R131: a segment's dry volume joins the tally of its area. -/
theorem tallied_ages (b : BoardRecord) (i : Fin 12) (k : Nat) :
    b.AgesTo { b with tallies := b.tallies.set i (satAdd (2 ^ 32 - 1) b.tallies[i] k) } := by
  have hget (a : Fin 12) : (b.tallies.set i (satAdd (2 ^ 32 - 1) b.tallies[i] k))[a] =
      if a = i then satAdd (2 ^ 32 - 1) b.tallies[i] k else b.tallies[a] := by
    by_cases ha : a = i
    · subst ha
      simp
    · simp [ha, Fin.val_ne_of_ne (Ne.symm ha)]
  have hle := satAdd_le (2 ^ 32 - 1) b.tallies[i] k
  refine ⟨rfl, rfl, Nat.le_refl _, id, id, fun hb => ⟨hb.dose, fun a => ?_⟩, fun _ => Nat.le_refl _, fun hb a => ?_⟩
  · rw [hget]
    split
    · omega
    · exact hb.tallies a
  · rw [hget]
    split
    · subst a
      exact le_satAdd (Nat.le_sub_one_of_lt (hb.tallies i)) k
    · exact Nat.le_refl _

/-- R160 to R162: a tick adds to the dose and turns the cured flag on, never off. -/
theorem doseBoard_ages (c : Cure) (temp : Option Int) (b : BoardRecord) : b.AgesTo (doseBoard c temp b) := by
  have hcured (r : BoardRecord) : r.AgesTo (judgeCured c r) :=
    ⟨rfl, rfl, Nat.le_refl _, id, fun hr => by simp [judgeCured, hr], fun hr => ⟨hr.dose, hr.tallies⟩,
      fun _ => Nat.le_refl _, fun _ _ => Nat.le_refl _⟩
  have hdosed (r : BoardRecord) (k : Nat) : r.AgesTo { r with dose := satAdd (2 ^ 32 - 1) r.dose k } := by
    have hle := satAdd_le (2 ^ 32 - 1) r.dose k
    exact ⟨rfl, rfl, Nat.le_refl _, id, id, fun hr => ⟨by show satAdd _ _ _ < _; omega, hr.tallies⟩,
      fun hr => le_satAdd (Nat.le_sub_one_of_lt hr.dose) k, fun _ _ => Nat.le_refl _⟩
  unfold doseBoard
  split
  · exact .trans (.unchanged (c := b.addReason .tempStale) rfl) (hcured _)
  · refine .trans (.trans ?_ (hdosed _ _)) (hcured _)
    split <;> exact .unchanged rfl

theorem judgeDose_aging (c : Cure) (b : BoardRecord) : (judgeDose c b).aging = b.aging := by
  unfold judgeDose
  dsimp only
  split <;> split <;> rfl

theorem judgeFilm_aging (specs : List AreaSpec) (b : BoardRecord) : (judgeFilm specs b).aging = b.aging := by
  unfold judgeFilm
  dsimp only
  split <;> split <;> rfl

theorem dripOn_aging (limit : Nat) (b : BoardRecord) : (dripOn limit b).aging = b.aging := by
  unfold dripOn
  dsimp only
  split <;> rfl

/-! ### How the records of a state age -/

/-- Every record of `t` is one of `s`, aged. -/
def Ages (s t : State) : Prop := ∀ c ∈ t.records, ∃ b ∈ s.records, b.AgesTo c

namespace Ages

variable {s t u : State} {l : LaneId} {n : Serial} {b : BoardRecord}

theorem refl (s : State) : Ages s s := fun c hc => ⟨c, hc, .refl c⟩

theorem trans (h : Ages s t) (g : Ages t u) : Ages s u := fun d hd => by
  obtain ⟨c, hc, hcd⟩ := g d hd
  obtain ⟨b, hb, hbc⟩ := h c hc
  exact ⟨b, hb, hbc.trans hcd⟩

theorem ite {c : Prop} [Decidable c] (h : c → Ages s t) (g : ¬c → Ages s u) : Ages s (if c then t else u) := by
  split
  · exact h ‹_›
  · exact g ‹_›

/-- What leaves the records leaves their age. -/
theorem same (hr : u.records = t.records) (h : Ages s t) : Ages s u := fun c hc => h c (hr ▸ hc)

theorem of_no_record (hr : t.records = []) : Ages s t := fun c hc => by simp [hr] at hc

/-! ### Changes of one block -/

theorem modLane {f : Lane → Lane} (h : Ages s t) : Ages s (t.modLane l f) := h.same (by simp)

theorem modPath {f : PathExec → PathExec} (h : Ages s t) : Ages s (t.modPath l f) := .modLane h

theorem modCtl {f : LaneCtl → LaneCtl} (h : Ages s t) : Ages s (t.modCtl l f) := .modLane h

theorem modStation {f : StationPort → StationPort} (h : Ages s t) : Ages s (t.modStation l f) := .modLane h

theorem modChecker {f : MaskChecker → MaskChecker} (h : Ages s t) : Ages s (t.modChecker l f) := .modLane h

theorem modMeter {f : FlowMeter → FlowMeter} (h : Ages s t) : Ages s (t.modMeter l f) := .modLane h

theorem setLaneState {x : LaneState} (h : Ages s t) : Ages s (t.setLaneState l x) := .modCtl h

theorem modPort {p : Port} {f : PortState → PortState} (h : Ages s t) : Ages s (t.modPort p f) := h.same (by simp)

theorem setGate {g : Gate} (h : Ages s t) : Ages s { t with gate := g } := h

theorem setOven {o : Oven} (h : Ages s t) : Ages s { t with oven := o } := h

theorem setHolds {hs : List HoldEntry} (h : Ages s t) : Ages s { t with holds := hs } := h

theorem setSettings {c : LineSettings} (h : Ages s t) : Ages s { t with settings := c } := h

theorem setStore {st : RecipeStore} (h : Ages s t) : Ages s { t with store := st } := h

theorem setFreeCount {k : Nat} (h : Ages s t) : Ages s { t with freeCount := k } := h

theorem raise {k : EventKind} {x : Option LaneId} {c : Nat} (h : Ages s t) : Ages s (raise k x n c t) := h

/-- A change of the record of a serial. -/
theorem ageRecord {f : BoardRecord → BoardRecord} (hf : ∀ r ∈ t.records, r.serial = n → ∃ b ∈ t.records, b.AgesTo (f r))
    (h : Ages s t) : Ages s (t.modRecord n f) := by
  refine h.trans fun c hc => ?_
  obtain ⟨r, hr, rfl⟩ := List.mem_map.1 hc
  split
  · exact hf r hr ‹_›
  · exact ⟨r, hr, .refl r⟩

/-- A change of the record of a serial that only ages it. -/
theorem agesRecord {f : BoardRecord → BoardRecord} (hf : ∀ r : BoardRecord, r.AgesTo (f r)) (h : Ages s t) :
    Ages s (t.modRecord n f) := h.ageRecord fun r hr _ => ⟨r, hr, hf r⟩

/-- A change of the record of a serial that leaves what ages. -/
theorem modRecord {f : BoardRecord → BoardRecord} (h : Ages s t)
    (hf : ∀ r, (f r).aging = r.aging := by exact fun _ => rfl) : Ages s (t.modRecord n f) :=
  .agesRecord (fun r => .unchanged (hf r)) h

/-- The record of a serial replaced by one reckoned from it. -/
theorem putRecord {c : BoardRecord} (hb : t.record? n = some b) (hc : c.aging = b.aging) (h : Ages s t) :
    Ages s (t.modRecord n fun _ => c) := h.ageRecord fun _ _ _ => ⟨b, record?_mem t n b hb, .unchanged hc⟩

theorem removeRecord (h : Ages s t) : Ages s (t.removeRecord n) := fun c hc => h c (List.mem_filter.1 hc).1

theorem addReason {r : Reason} (h : Ages s t) : Ages s (t.addReason n r) := .modRecord h

theorem removeHold (h : Ages s t) : Ages s (t.removeHold n) := h

theorem joinQueue {e : QueueEntry} (h : Ages s t) : Ages s (t.joinQueue l e) := .modCtl h

theorem leaveQueue (h : Ages s t) : Ages s (t.leaveQueue l n) := .modCtl h

/-! ### Holds (R168 to R172) -/

theorem grantHold {loc : HoldLocation} (h : Ages s t) : Ages s (t.grantHold b loc) :=
  .raise (.modRecord (.setHolds h))

theorem overflow {code : Nat} (h : Ages s t) : Ages s (t.overflow b code) := .raise (.removeRecord h)

theorem ovenHold {loc : HoldLocation} (h : Ages s t) : Ages s (t.ovenHold b loc) :=
  .ite (fun _ => .grantHold h) fun _ => .overflow h

theorem letGo (h : Ages s t) : Ages s (t.letGo l) := by
  unfold State.letGo
  exact .modPath (.setGate h)

theorem enterEjecting {x : Option Serial} (h : Ages s t) : Ages s (t.enterEjecting l x) := .modCtl h

theorem laneHold (h : Ages s t) : Ages s (t.laneHold l n) := by
  rcases laneHold_cases t l n with ⟨_, he⟩ | ⟨b, _, _, he⟩ | ⟨b, _, _, he⟩
  · rw [he]
    exact h
  · rw [he]
    exact .enterEjecting (.grantHold (.letGo h))
  · rw [he]
    exact .raise (.setLaneState (.modRecord (.letGo h)))

theorem retryLane (h : Ages s t) : Ages s (t.retryLane l) := by
  rcases retryLane_cases t l with he | ⟨b, _, _, _, he⟩
  · rw [he]
    exact h
  · rw [he]
    exact .enterEjecting (.grantHold h)

theorem retryBlocked (h : Ages s t) : Ages s t.retryBlocked := .retryLane (.retryLane h)

/-! ### The gate and the transfer (R140 to R150) -/

theorem grantTo {src : Source} (h : Ages s t) : Ages s (t.grantTo src) := by
  unfold State.grantTo
  cases src with
  | lane l =>
    cases he : t.gate.exit l with
    | none =>
      simp only [he]
      exact .setGate h
    | some w =>
      simp only [he]
      exact .setGate (.setLaneState (.modRecord (.setGate h)))
  | returnStation =>
    cases t.gate.station with
    | none => exact .setGate h
    | some w => exact .setGate (.modRecord (.setGate h))

theorem reevaluate (h : Ages s t) : Ages s t.reevaluate := by
  rcases reevaluate_cases t with he | ⟨c, _, _, he⟩
  · rw [he]
    exact h
  · rw [he]
    exact .grantTo h

theorem reevaluateStation (h : Ages s t) : Ages s t.reevaluateStation :=
  .ite (fun _ => .reevaluate h) fun _ => h

theorem reevaluateExit (h : Ages s t) : Ages s (t.reevaluateExit l) :=
  .ite (fun _ => .reevaluate h) fun _ => h

theorem presenceChange {level : Bool} (h : Ages s t) : Ages s (t.presenceChange level) :=
  .ite (fun _ => .reevaluateStation (.setGate h)) fun _ => .setGate h

theorem flashReady {src : Source} {w : Waiting} (h : Ages s t) : Ages s (t.flashReady src w) :=
  .ite (fun _ => .setGate h) fun _ => .reevaluate (.setGate h)

theorem emptyStation (h : Ages s t) : Ages s t.emptyStation := .setGate h

theorem endGrant (h : Ages s t) : Ages s t.endGrant := .setGate h

theorem stationFails {r : Reason} (h : Ages s t) : Ages s (t.stationFails n r) := by
  unfold State.stationFails
  split
  · exact .emptyStation h
  · exact .emptyStation (.ovenHold (.addReason h))

theorem enterOven (h : Ages s t) : Ages s (t.enterOven n) := .modRecord (.setOven h)

/-! ### A lane's states (R60 to R66, R87) -/

theorem startCheck (h : Ages s t) : Ages s (t.startCheck l b) :=
  .modChecker (.setLaneState (.modRecord h))

theorem takeArrived (h : Ages s t) : Ages s (t.takeArrived l n) := by
  rcases takeArrived_cases t l n with ⟨_, he⟩ | ⟨_, ⟨_, he⟩ | ⟨b, _, _, he⟩ | ⟨b, _, _, he⟩⟩
  · rw [he]
    exact .enterEjecting (.raise h)
  · rw [he]
    exact h
  · rw [he]
    exact .startCheck (.leaveQueue h)
  · rw [he]
    exact .laneHold (.addReason (.leaveQueue h))

theorem serveArrived (h : Ages s t) : Ages s (t.serveArrived l) := by
  unfold State.serveArrived
  split
  · dsimp only
    split
    · exact .takeArrived (.modStation h)
    · exact .raise (.modStation h)
    · exact h
  · exact h

theorem enterIdle (h : Ages s t) : Ages s (t.enterIdle l) := .serveArrived (.modCtl h)

theorem freeSource {src : Source} (h : Ages s t) : Ages s (t.freeSource src) := by
  cases src with
  | lane l => exact .enterIdle h
  | returnStation => exact .emptyStation h

theorem transferFails {src : Source} (h : Ages s t) : Ages s (t.transferFails src) := by
  unfold State.transferFails
  split
  · exact .endGrant h
  · cases src with
    | lane l => exact .laneHold (.addReason (.endGrant h))
    | returnStation => exact .stationFails (.endGrant h)

/-! ### DISPOSE and escalation (R173 to R178) -/

theorem disposeOut {k : EventKind} (h : Ages s t) : Ages s (t.disposeOut k b) :=
  .retryBlocked (.raise (.removeRecord (.removeHold h)))

/-- R177, R178: a board sent back has one pass of rework more. -/
theorem sendBack {f : BoardRecord → BoardRecord}
    (hf : ∀ r : BoardRecord, (f r).aging = BoardRecord.aging { r with rework := r.rework + 1 }) (h : Ages s t) :
    Ages s (t.modRecord n f) := by
  refine .agesRecord (fun r => .trans ?_ (.unchanged (hf r))) h
  exact { BoardRecord.AgesTo.refl r with
    rework := Nat.le_succ _, bounded := fun hb => ⟨hb.dose, hb.tallies⟩ }

theorem disposeRespray {areas : FlagSet 12} (h : Ages s t) : Ages s (t.disposeRespray b l areas) :=
  .retryBlocked (.joinQueue (.sendBack (fun _ => rfl) (.removeHold h)))

theorem disposeRecure (h : Ages s t) : Ages s (t.disposeRecure b) :=
  .retryBlocked (.reevaluateStation (.setGate (.sendBack (fun _ => rfl) (.removeHold h))))

theorem escalate {e : HoldEntry} (h : Ages s t) : Ages s (t.escalate n e l) :=
  .raise (.addReason (.setHolds h))

/-! ### The oven (R154 to R164) -/

theorem makeStale {z : Fin 6} (h : Ages s t) : Ages s (t.makeStale z) := .raise (.setOven h)

theorem judgeZones {zs : List (Fin 6)} (h : Ages s t) : Ages s (t.judgeZones zs) := by
  induction zs generalizing t with
  | nil => exact h
  | cons z rest ih => exact ih (.ite (fun _ => .makeStale h) fun _ => h)

theorem judgeSensor {d : List Byte} (h : Ages s t) : Ages s (t.judgeSensor d) := by
  unfold State.judgeSensor
  split
  · exact h
  · exact .ite (fun _ => .setOven h) fun _ => h

theorem sensorWaiting (h : Ages s t) : Ages s t.sensorWaiting := .setOven h

theorem sensorByte {c : Byte} {stop : Bool} (h : Ages s t) : Ages s (t.sensorByte c stop) :=
  .ite (fun _ => .sensorWaiting h) fun _ => .ite (fun _ => h) fun _ =>
    .ite (fun _ => .setOven h) fun _ => .judgeSensor (.sensorWaiting h)

theorem restartDose (h : Ages s t) : Ages s t.restartDose := .setOven h

theorem doseAll {es : List OvenEntry} (h : Ages s t) : Ages s (t.doseAll es) := by
  induction es generalizing t with
  | nil => exact h
  | cons e rest ih => exact ih (.agesRecord (fun r => doseBoard_ages _ _ r) h)

theorem judgeExit (hb : t.record? b.serial = some b) (h : Ages s t) : Ages s (t.judgeExit b) :=
  .ite (fun _ => .ovenHold (.putRecord hb (judgeDose_aging ..) h)) fun _ => .raise (.removeRecord h)

theorem popHead {e : OvenEntry} {rest : List OvenEntry} (h : Ages s t) : Ages s (t.popHead e rest) := by
  unfold State.popHead
  dsimp only
  split
  · exact .setOven h
  · rename_i b hb
    exact .judgeExit (by rwa [record?_serial _ _ b hb]) (.setOven h)

/-! ### Metering (R69, R124 to R136) -/

theorem countDeviation (h : Ages s t) : Ages s (t.countDeviation l) :=
  .ite (fun _ => .raise (.modCtl h)) fun _ => .modCtl h

theorem handOver {seg : Segment} {p k : Nat} (h : Ages s t) : Ages s (t.handOver l seg p k) := by
  unfold State.handOver
  split
  · exact h
  · exact .ite (fun _ => .countDeviation (.addReason (.agesRecord (fun r => tallied_ages r ..) h)))
      fun _ => .agesRecord (fun r => tallied_ages r ..) h

theorem handOverAll {segs : List Segment} (h : Ages s t) : Ages s (t.handOverAll l segs) := by
  induction segs generalizing t with
  | nil => exact h
  | cons seg rest ih => exact ih (.handOver h)

theorem enterExitWait (h : Ages s t) : Ages s (t.enterExitWait l b) :=
  .setGate (.setLaneState (.modRecord h))

theorem judgePass (h : Ages s t) : Ages s (t.judgePass l n) := by
  unfold State.judgePass
  split
  · exact h
  · rename_i b hb
    have hjudged := h.putRecord hb (judgeFilm_aging (t.recipe b.slot).areasD b)
    exact .ite (fun _ => .laneHold hjudged) fun _ => .enterExitWait hjudged

theorem boardDrip (h : Ages s t) : Ages s (t.boardDrip l) := by
  unfold State.boardDrip
  split
  · exact h
  · exact .modRecord h fun _ => dripOn_aging ..

theorem flowPulse (h : Ages s t) : Ages s (t.flowPulse l) := by
  unfold State.flowPulse
  split
  · exact .modMeter h
  · exact .modMeter h
  · exact .boardDrip h
  · exact .boardDrip h
  · exact .boardDrip h
  · exact .boardDrip h
  · exact .modMeter h

/-! ### The path (R110 to R119) -/

theorem raiseQueueEmpty (h : Ages s t) : Ages s (raiseQueueEmpty l t) :=
  .ite (fun _ => .raise h) fun _ => .raise (.setFreeCount h)

theorem judgeFall {before : Nat} (h : Ages s t) : Ages s (t.judgeFall l before) :=
  .ite (fun _ => .ite (fun _ => .raiseQueueEmpty (.ite (fun _ => .raise h) fun _ => h))
    fun _ => .ite (fun _ => .raise h) fun _ => h) fun _ => h

theorem sprayEnd (h : Ages s t) : Ages s (t.sprayEnd l) := by
  unfold State.sprayEnd
  split
  · exact h
  · exact .reevaluateExit (.modPath (.judgePass (.modRecord (.modPath h))))

theorem startGap (h : Ages s t) : Ages s (t.startGap l) := by
  unfold State.startGap
  exact .modPath h

theorem afterOutcome (h : Ages s t) : Ages s (t.afterOutcome l) :=
  .ite (fun _ => .sprayEnd h) fun _ => .startGap h

theorem finishSegment (h : Ages s t) : Ages s (t.finishSegment l) := by
  unfold State.finishSegment
  refine .afterOutcome (.judgeFall (.modPath ?_))
  split
  · exact .handOver h
  · exact h

theorem enterClosing {seg : Segment} {k : Nat} (h : Ages s t) : Ages s (t.enterClosing l seg k) :=
  .ite (fun _ => .finishSegment (.modPath h)) fun _ => .modPath h

theorem coatBoard (h : Ages s t) : Ages s (t.coatBoard l) := by
  unfold State.coatBoard
  split
  · exact h
  · exact .agesRecord (fun r => { BoardRecord.AgesTo.refl r with
      coated := fun _ => rfl, bounded := fun hb => ⟨hb.dose, hb.tallies⟩ }) h

theorem endOpenDelay {seg : Segment} (h : Ages s t) : Ages s (t.endOpenDelay l seg) :=
  .ite (fun _ => .finishSegment (.modPath h)) fun _ => .coatBoard (.modPath h)

theorem startSegment {seg : Segment} (h : Ages s t) : Ages s (t.startSegment l seg) :=
  .ite (fun _ => .endOpenDelay (.modPath (.modMeter h))) fun _ => .modPath (.modMeter h)

theorem enterSpraying (h : Ages s t) : Ages s (t.enterSpraying l n) :=
  .ite (fun _ => .setLaneState (.modRecord h)) fun _ => h

theorem skipTo {k : Nat} (h : Ages s t) : Ages s (t.skipTo l n k) :=
  .ite (fun _ => .addReason (.modPath (.handOverAll h))) fun _ => h

theorem takeStrobe {k : Nat} (h : Ages s t) : Ages s (t.takeStrobe l k) := by
  unfold State.takeStrobe
  split
  · exact h
  · refine .ite (fun _ => .raise h) fun _ => ?_
    dsimp only
    split
    · exact .afterOutcome (.judgeFall (.addReason (.modPath (.skipTo (.enterSpraying h)))))
    · exact .ite (fun _ => .afterOutcome (.judgeFall (.modPath (.handOver (.skipTo (.enterSpraying h))))))
        fun _ => .startSegment (.judgeFall (.skipTo (.enterSpraying h)))

theorem serveStart (h : Ages s t) : Ages s (t.serveStart l) := by
  unfold State.serveStart
  split
  · exact h
  · dsimp only
    split
    · exact .ite (fun _ => .takeStrobe (.modStation h)) fun _ => h
    · exact .ite (fun _ => .takeStrobe (.modStation h)) fun _ => h
    · exact .raise (.modStation h)

theorem serveEnd (h : Ages s t) : Ages s (t.serveEnd l) := by
  unfold State.serveEnd
  split
  · exact h
  · refine .ite (fun _ => ?_) fun _ => .modStation h
    split
    · exact .serveStart (.enterClosing (.modStation h))
    · exact .serveStart (.enterClosing (.modStation h))
    · exact .modStation h

theorem dropPhase (h : Ages s t) : Ages s (t.dropPhase l) := .modPath h

theorem gapExpired (h : Ages s t) : Ages s (t.gapExpired l) := by
  unfold State.gapExpired
  dsimp only
  split
  · exact .sprayEnd (.addReason (.modPath (.handOverAll (.modPath h))))
  · exact .modPath h

/-! ### The Mask Checker (R88 to R95, R112) -/

theorem pathCheck (h : Ages s t) : Ages s (t.pathCheck l b) :=
  .ite (fun _ => .laneHold (.addReason h)) fun _ => .modPath (.setLaneState (.modRecord h))

theorem ruling (h : Ages s t) : Ages s (t.ruling l) := by
  unfold State.ruling
  split
  · exact h
  · exact .ite (fun _ => .laneHold (.modRecord h)) fun _ => .pathCheck h

theorem discardReadings (h : Ages s t) : Ages s (t.discardReadings l) := by
  unfold State.discardReadings
  exact .modChecker (.modStation h)

theorem endCheck (h : Ages s t) : Ages s (t.endCheck l) :=
  .ite (fun _ => .ruling (.modChecker (.discardReadings h))) fun _ => .modChecker (.discardReadings h)

theorem takeReading (h : Ages s t) : Ages s (t.takeReading l) := by
  unfold State.takeReading
  split
  · refine .ite (fun _ => ?_) fun _ => h
    dsimp only
    split
    · exact .endCheck (.modChecker (.modStation h))
    · exact .modChecker (.modChecker (.modStation h))
    · exact .ite (fun _ => .raise (.modRecord (.modChecker (.modStation h))))
        fun _ => .modRecord (.modChecker (.modStation h))
  · exact h

theorem serveInspect (h : Ages s t) : Ages s (t.serveInspect l) :=
  .ite (fun _ => .takeReading h) fun _ => .discardReadings h

theorem paceExpired (h : Ages s t) : Ages s (t.paceExpired l) :=
  .ite (fun _ => .takeReading (.modChecker h)) fun _ => .modChecker h

/-! ### The Station Ports (R75 to R82) -/

theorem addBoardReason {r : Reason} (h : Ages s t) : Ages s (t.addBoardReason l r) := by
  unfold State.addBoardReason
  split
  · exact h
  · exact .addReason h

theorem loseRecord {slot : StationSlot} (h : Ages s t) : Ages s (t.loseRecord l slot n) := by
  cases slot with
  | startSlot => exact .ite (fun _ => .addBoardReason (.modStation h)) fun _ => .modStation h
  | endSlot => exact .modStation (f := fun st => st.countLoss .endSlot) h
  | inspectSlot => exact .ite (fun _ => .addBoardReason (.modStation h)) fun _ => .modStation h
  | boardSlot => exact .raise (.modStation h)

theorem serveBoard (h : Ages s t) : Ages s (t.serveBoard l) := by
  unfold State.serveBoard
  split
  · exact .ite (fun _ => .enterIdle (.modCtl (.modStation h))) fun _ => .modStation h
  · exact .serveArrived h
  · exact h

theorem enterSlot {slot : StationSlot} {d : List Byte} (h : Ages s t) :
    Ages s (t.enterSlot l slot d) := by
  cases slot with
  | startSlot => exact .ite (fun _ => .loseRecord h) fun _ => .serveStart (.modStation h)
  | endSlot => exact .ite (fun _ => .loseRecord h) fun _ => .serveEnd (.modStation h)
  | inspectSlot => exact .ite (fun _ => .loseRecord h) fun _ => .serveInspect (.modStation h)
  | boardSlot => exact .ite (fun _ => .loseRecord h) fun _ => .serveBoard (.modStation h)

theorem stationByte {slot : StationSlot} {c : Byte} (h : Ages s t) : Ages s (t.stationByte l slot c) :=
  .ite (fun _ => .enterSlot (.modStation h)) fun _ => .modStation h

/-! ### Lane commands (R59, R60, R66, R68, R71) -/

theorem disableLane (h : Ages s t) : Ages s (t.disableLane l) := by
  unfold State.disableLane
  split
  · exact h
  · exact .serveArrived (.modCtl h)
  · exact .modCtl h

theorem clearLane (h : Ages s t) : Ages s (t.clearLane l) := .modLane (.setGate h)

theorem abortBoard (h : Ages s t) : Ages s (t.abortBoard l b) :=
  .ite (fun _ => .grantHold (.addReason h)) fun _ => .overflow h

theorem resetLane (h : Ages s t) : Ages s (t.resetLane l) := by
  cases hb : t.board l with
  | none =>
    by_cases hg : t.gate.grant = some (.lane l)
    · simpa [State.resetLane, hg, hb] using Ages.reevaluate (.setGate (.clearLane h))
    · simpa [State.resetLane, hg, hb] using Ages.clearLane h
  | some b =>
    by_cases hg : t.gate.grant = some (.lane l)
    · simpa [State.resetLane, hg, hb] using Ages.reevaluate (.abortBoard (.setGate (.clearLane h)))
    · simpa [State.resetLane, hg, hb] using Ages.abortBoard (Ages.clearLane h)

theorem configureLane {c : LaneSettings} (h : Ages s t) : Ages s (t.configureLane l c) :=
  .ite (fun _ => .raise (.modCtl h)) fun _ => .modCtl h

theorem ejectExpired (h : Ages s t) : Ages s (t.ejectExpired l) :=
  .ite (fun _ => .raise (.setLaneState (.modCtl h))) fun _ => .modCtl h

end Ages
end Sys2Proof.Machine
end

section
/-!
While a record exists it only ages, continued: every answer, every row and every step (O60).
-/

namespace Sys2Proof.Machine

open Sys2Proof

/-- Every record of `t` is one of `s`, aged, or that of a board `s` does not know. -/
structure AgesOrIsNew (s t : State) : Prop where
  records : ∀ c ∈ t.records, (∃ b ∈ s.records, b.AgesTo c) ∨ ∀ b ∈ s.records, b.serial ≠ c.serial

theorem Ages.orIsNew {s t : State} (h : Ages s t) : AgesOrIsNew s t := ⟨fun c hc => .inl (h c hc)⟩

/-! ### Answers -/

/-- An answer after which the records have aged, or are new. -/
def Answer.Ages (a : Answer) (s : State) : Prop := AgesOrIsNew s a.st

namespace Answer.Ages

variable {s t : State}

theorem refuse {e : Status} : (refuse e s).Ages s := (Machine.Ages.refl s).orIsNew

theorem done {e : Status} {d : List Byte} (h : Machine.Ages s t) : (Answer.mk e d t).Ages s := h.orIsNew

theorem accept {d : List Byte} (h : Machine.Ages s t) : (accept d t).Ages s := h.orIsNew

theorem ite {c : Prop} [Decidable c] {a b : Answer} (h : c → a.Ages s) (g : ¬c → b.Ages s) :
    (if c then a else b).Ages s := by
  split
  · exact h ‹_›
  · exact g ‹_›

theorem orRefuse {c : Prop} [Decidable c] {e : Status} {b : Answer} (g : ¬c → b.Ages s) :
    (if c then Machine.refuse e s else b).Ages s := .ite (fun _ => .refuse) g

end Answer.Ages

section Answers

variable (s : State) (p : Port) (d : List Byte)

/-! ### The Recipe Store's commands (chapter 02) -/

theorem writeRecipeAnswer_ages : (writeRecipeAnswer p d s).Ages s := by
  refine .orRefuse fun _ => .orRefuse fun _ => ?_
  split
  · exact .refuse
  · refine .orRefuse fun _ => .orRefuse fun _ => ?_
    split
    · exact .refuse
    · split
      · exact .refuse
      · exact .orRefuse fun _ => .orRefuse fun _ => .accept (.setStore (.refl s))

theorem writeFeatureMapAnswer_ages : (writeFeatureMapAnswer p d s).Ages s := by
  refine .orRefuse fun _ => .orRefuse fun _ => ?_
  split
  · exact .refuse
  · refine .orRefuse fun _ => ?_
    split
    · exact .refuse
    · exact .orRefuse fun _ => .orRefuse fun _ => .accept (.setStore (.refl s))

theorem readRecipeAnswer_ages : (readRecipeAnswer p d s).Ages s := by
  refine .orRefuse fun _ => .orRefuse fun _ => ?_
  dsimp only
  split
  · exact .refuse
  · refine .orRefuse fun _ => .orRefuse fun _ => .ite (fun _ => .accept (.refl s)) fun _ =>
      .ite (fun _ => .accept (.refl s)) fun _ => ?_
    split
    · exact .refuse
    · exact .accept (.refl s)

theorem bindAliasAnswer_ages : (bindAliasAnswer p d s).Ages s := by
  refine .orRefuse fun _ => .orRefuse fun _ => ?_
  dsimp only
  split
  · exact .refuse
  · refine .orRefuse fun _ => .orRefuse fun _ => ?_
    split
    · exact .accept (.setStore (.refl s))
    · exact .ite (fun _ => .accept (.setStore (.refl s))) fun _ => .refuse

theorem unbindAliasAnswer_ages : (unbindAliasAnswer p d s).Ages s := by
  refine .orRefuse fun _ => .orRefuse fun _ => .orRefuse fun _ => .orRefuse fun _ => ?_
  split
  · exact .refuse
  · exact .accept (.setStore (.refl s))

theorem clearRecipesAnswer_ages : (clearRecipesAnswer p d s).Ages s :=
  .orRefuse fun _ => .orRefuse fun _ => .orRefuse fun _ => .orRefuse fun _ => .accept (.setStore (.refl s))

/-! ### ANNOUNCE and PATH_BEGIN -/

/-- R40, R47: ANNOUNCE makes a record for a serial that has none. -/
theorem announce_ages {s : State} {l : LaneId} {b : BoardRecord} {e : QueueEntry} (hn : s.record? b.serial = none) :
    AgesOrIsNew s (State.joinQueue { s with records := s.records ++ [b] } l e) := by
  refine ⟨fun c hc => ?_⟩
  simp only [State.joinQueue, modCtl_records, List.mem_append, List.mem_singleton] at hc
  rcases hc with hc | rfl
  · exact .inl ⟨c, hc, .refl c⟩
  · exact .inr (serial_ne_of_record?_none hn)

theorem announceAnswer_ages : (announceAnswer p d s).Ages s := by
  refine .orRefuse fun _ => .orRefuse fun _ => ?_
  split
  · exact .refuse
  · refine .orRefuse fun _ => .orRefuse fun _ => .orRefuse fun hnew => .orRefuse fun _ => ?_
    split
    · exact .refuse
    · exact .orRefuse fun _ => .orRefuse fun _ => .orRefuse fun _ =>
        announce_ages (by simpa [newRecord] using hnew)

theorem pathBeginAnswer_ages : (pathBeginAnswer p d s).Ages s := by
  refine .orRefuse fun _ => .orRefuse fun _ => ?_
  split
  · exact .refuse
  · refine .orRefuse fun _ => .orRefuse fun _ => .orRefuse fun _ => ?_
    split
    · exact .refuse
    · refine .ite (fun _ => ?_) fun _ => .accept (.modPath (.refl s))
      split
      · exact .refuse
      · exact .ite (fun _ => .accept (.modPath (.refl s))) fun _ => .done (.laneHold (.addReason (.refl s)))

/-! ### The other commands -/

theorem identifyAnswer_ages : (identifyAnswer d s).Ages s := .orRefuse fun _ => .accept (.refl s)

theorem getStatusAnswer_ages : (getStatusAnswer d s).Ages s := .orRefuse fun _ => .accept (.refl s)

theorem getEventsAnswer_ages : (getEventsAnswer p d s).Ages s := by
  refine .orRefuse fun _ => .ite (fun _ => .accept (.refl s)) fun _ => ?_
  split
  · exact .refuse
  · exact .accept (.refl s)

theorem ackEventsAnswer_ages : (ackEventsAnswer p d s).Ages s := by
  refine .orRefuse fun _ => ?_
  split
  · exact .refuse
  · exact .accept (.modPort (.refl s))

theorem setNoticeMaskAnswer_ages : (setNoticeMaskAnswer p d s).Ages s := by
  refine .orRefuse fun _ => ?_
  split
  · exact .refuse
  · exact .accept (.modPort (.refl s))

theorem setLineConfigAnswer_ages : (setLineConfigAnswer p d s).Ages s := by
  refine .orRefuse fun _ => .orRefuse fun _ => ?_
  split
  · exact .refuse
  · exact .orRefuse fun _ => .accept (.reevaluate (.judgeZones (.setSettings (.refl s))))

theorem lineResetAnswer_ages : (lineResetAnswer p d s).Ages s :=
  .orRefuse fun _ => .orRefuse fun _ => .accept (.of_no_record rfl)

theorem withdrawAnswer_ages : (withdrawAnswer p d s).Ages s := by
  refine .orRefuse fun _ => .orRefuse fun _ => .orRefuse fun _ => ?_
  split
  · exact .refuse
  · exact .ite (fun _ => .accept (.removeRecord (.leaveQueue (.refl s)))) fun _ => .refuse

theorem getBoardAnswer_ages : (getBoardAnswer d s).Ages s := by
  refine .orRefuse fun _ => .orRefuse fun _ => ?_
  split
  · exact .refuse
  · exact .accept (.refl s)

theorem laneEnableAnswer_ages : (laneEnableAnswer p d s).Ages s := by
  refine .orRefuse fun _ => .orRefuse fun _ => ?_
  split
  · exact .refuse
  · exact .orRefuse fun _ => .accept (.ite (fun _ => .enterIdle (.refl s)) fun _ => .modCtl (.refl s))

theorem laneDisableAnswer_ages : (laneDisableAnswer d s).Ages s := by
  refine .orRefuse fun _ => ?_
  split
  · exact .refuse
  · exact .accept (.disableLane (.refl s))

theorem laneResetAnswer_ages : (laneResetAnswer p d s).Ages s := by
  refine .orRefuse fun _ => .orRefuse fun _ => ?_
  split
  · exact .refuse
  · exact .accept (.resetLane (.refl s))

theorem setLaneConfigAnswer_ages : (setLaneConfigAnswer p d s).Ages s := by
  refine .orRefuse fun _ => .orRefuse fun _ => ?_
  split
  · exact .refuse
  · exact .orRefuse fun _ => .orRefuse fun _ => .accept (.configureLane (.refl s))

theorem clearNozzleAnswer_ages : (clearNozzleAnswer p d s).Ages s := by
  refine .orRefuse fun _ => .orRefuse fun _ => ?_
  split
  · exact .refuse
  · exact .ite (fun _ => .accept (.modMeter (.modCtl (.refl s)))) fun _ => .refuse

theorem segmentsAnswer_ages : (segmentsAnswer p d s).Ages s := by
  refine .orRefuse fun _ => .orRefuse fun _ => ?_
  split
  · exact .refuse
  · refine .orRefuse fun _ => ?_
    split
    · exact .refuse
    · exact .orRefuse fun _ => .done (.modPath (.refl s))

theorem pathEndAnswer_ages : (pathEndAnswer p d s).Ages s := by
  refine .orRefuse fun _ => .orRefuse fun _ => ?_
  split
  · exact .refuse
  · exact .orRefuse fun _ => .accept (.ite (fun _ => .sprayEnd (.modPath (.refl s))) fun _ => .modPath (.refl s))

theorem pathKeepAnswer_ages : (pathKeepAnswer p d s).Ages s := by
  refine .orRefuse fun _ => .orRefuse fun _ => ?_
  split
  · exact .orRefuse fun _ => .accept (.modPath (.refl s))
  · exact .refuse

theorem pathDiscardAnswer_ages : (pathDiscardAnswer p d s).Ages s := by
  refine .orRefuse fun _ => .orRefuse fun _ => ?_
  split
  · exact .refuse
  · exact .orRefuse fun _ => .accept (.modPath (.refl s))

theorem ovenAcceptAnswer_ages : (ovenAcceptAnswer p d s).Ages s := by
  refine .orRefuse fun _ => .orRefuse fun _ => ?_
  split
  · exact .refuse
  · exact .orRefuse fun _ => .accept (.ite (fun _ => .reevaluate (.setGate (.refl s))) fun _ => .setGate (.refl s))

theorem setOvenLayoutAnswer_ages : (setOvenLayoutAnswer p d s).Ages s :=
  .orRefuse fun _ => .orRefuse fun _ => .orRefuse fun _ => .orRefuse fun _ => .orRefuse fun _ => .orRefuse fun _ =>
    .accept (.judgeZones (.setOven (.refl s)))

theorem listHoldsAnswer_ages : (listHoldsAnswer d s).Ages s := .orRefuse fun _ => .accept (.refl s)

theorem resprayAnswer_ages (b : BoardRecord) (l : LaneId) (areas : List (Fin 12)) :
    (resprayAnswer b l areas s).Ages s :=
  .orRefuse fun _ => .orRefuse fun _ => .orRefuse fun _ => .orRefuse fun _ => .accept (.disposeRespray (.refl s))

theorem disposeAnswer_ages : (disposeAnswer p d s).Ages s := by
  refine .orRefuse fun _ => ?_
  split
  · exact .refuse
  · dsimp only
    split
    · exact .refuse
    · refine .orRefuse fun _ => ?_
      split
      · exact .refuse
      · split
        · exact .accept (.disposeOut (.refl s))
        · exact .accept (.disposeOut (.refl s))
        · exact resprayAnswer_ages ..
        · exact .orRefuse fun _ => .accept (.disposeRecure (.refl s))

end Answers

theorem commandAnswer_ages (p : Port) (f : Frame) (s : State) : (commandAnswer p f s).Ages s := by
  unfold commandAnswer
  split
  case h_1 => exact identifyAnswer_ages ..
  case h_2 => exact getStatusAnswer_ages ..
  case h_3 => exact getEventsAnswer_ages ..
  case h_4 => exact ackEventsAnswer_ages ..
  case h_5 => exact setNoticeMaskAnswer_ages ..
  case h_6 => exact getBoardAnswer_ages ..
  case h_7 => exact listHoldsAnswer_ages ..
  case h_8 => exact setLineConfigAnswer_ages ..
  case h_9 => exact setLaneConfigAnswer_ages ..
  case h_10 => exact setOvenLayoutAnswer_ages ..
  case h_11 => exact ovenAcceptAnswer_ages ..
  case h_12 => exact writeRecipeAnswer_ages ..
  case h_13 => exact readRecipeAnswer_ages ..
  case h_14 => exact bindAliasAnswer_ages ..
  case h_15 => exact unbindAliasAnswer_ages ..
  case h_16 => exact writeFeatureMapAnswer_ages ..
  case h_17 => exact clearRecipesAnswer_ages ..
  case h_18 => exact laneEnableAnswer_ages ..
  case h_19 => exact laneDisableAnswer_ages ..
  case h_20 => exact laneResetAnswer_ages ..
  case h_21 => exact lineResetAnswer_ages ..
  case h_22 => exact clearNozzleAnswer_ages ..
  case h_23 => exact announceAnswer_ages ..
  case h_24 => exact withdrawAnswer_ages ..
  case h_25 => exact pathBeginAnswer_ages ..
  case h_26 => exact segmentsAnswer_ages ..
  case h_27 => exact pathEndAnswer_ages ..
  case h_28 => exact pathKeepAnswer_ages ..
  case h_29 => exact pathDiscardAnswer_ages ..
  case h_30 => exact disposeAnswer_ages ..
  case h_31 => exact .refuse

/-- Taking a command ages the records as its answer does. -/
theorem takeCommand_ages (p : Port) (f : Frame) (body : State → Answer) (s : State) (hbody : ∀ u, (body u).Ages u) :
    AgesOrIsNew s (takeCommand p f body s) := by
  cases ht : takeable p f s with
  | false =>
    rw [takeCommand_of_not_takeable p f body s ht]
    exact (Ages.refl s).orIsNew
  | true =>
    obtain ⟨rest, hready⟩ := (takeable_iff_ready p f s).1 ht
    rw [takeCommand_of_ready p f rest body s hready]
    exact ⟨fun c hc => by simpa using (hbody (s.taken p rest)).records c (by simpa using hc)⟩

/-! ### The part's own occurrences -/

/-- What an occurrence that is no command does to the records: they age, wherever it leads. -/
def NextAges (s : State) (o : Host.Outcome State Fault Refusal) : Prop := ∀ t, o = .next t → Ages s t

namespace NextAges

variable {s t : State}

theorem next (h : Ages s t) : NextAges s (.next t) := fun _ he => by
  cases he
  exact h

theorem same : NextAges s (.next s) := .next (.refl s)

theorem whenDue {c : Prop} [Decidable c] (h : Ages s t) :
    NextAges s (if c then .next t else .next s) := by
  split
  · exact .next h
  · exact .same

end NextAges

theorem execFlashReadyExpiry_ages (src : Source) (s : State) :
    NextAges s (execFlashReadyExpiry src s) := by
  unfold execFlashReadyExpiry
  split
  · exact .same
  · exact .whenDue (.flashReady (.refl s))

theorem execLaneDeadlineExpiry_ages (l : LaneId) (s : State) :
    NextAges s (execLaneDeadlineExpiry l s) := by
  unfold execLaneDeadlineExpiry
  split
  · exact .same
  · exact .whenDue (.laneHold (.addReason (.setGate (.refl s))))

theorem execReturnDeadlineExpiry_ages (s : State) : NextAges s (execReturnDeadlineExpiry s) := by
  unfold execReturnDeadlineExpiry
  split
  · exact .same
  · exact .whenDue (.stationFails (.refl s))

theorem execReturnPresenceChange_ages (level : Bool) (s : State) :
    NextAges s (execReturnPresenceChange level s) := by
  unfold execReturnPresenceChange
  split
  · exact .same
  · exact .next (.presenceChange (.refl s))

theorem execOvenEntryEvent_ages (s : State) : NextAges s (execOvenEntryEvent s) := by
  unfold execOvenEntryEvent
  split
  · exact .next (.raise (.refl s))
  · refine .next (.reevaluate (.freeSource ?_))
    split
    · exact .enterOven (.endGrant (.refl s))
    · exact .endGrant (.refl s)

theorem execTransferTimerExpiry_ages (s : State) : NextAges s (execTransferTimerExpiry s) := by
  unfold execTransferTimerExpiry
  split
  · split
    · exact .next (.endGrant (.refl s))
    · exact .next (.reevaluate (.transferFails (.refl s)))
  · exact .same

theorem execEncoderPulse_ages (s : State) : NextAges s (execEncoderPulse s) := by
  unfold execEncoderPulse
  split
  · exact .same
  · dsimp only
    split
    · exact .next (.reevaluate (.setOven (.refl s)))
    · exact .next (.setOven (.refl s))

theorem execOvenExitEvent_ages (s : State) : NextAges s (execOvenExitEvent s) := by
  unfold execOvenExitEvent
  split
  · exact .next (.raise (.refl s))
  · split
    · exact .next (.raise (.refl s))
    · exact .next (.reevaluate (.popHead (.refl s)))

theorem execEscalationDeadlineExpiry_ages (n : Serial) (s : State) :
    NextAges s (execEscalationDeadlineExpiry n s) := by
  unfold execEscalationDeadlineExpiry
  split
  · exact .whenDue (.escalate (.refl s))
  · exact .same

theorem execOpenDelayEnd_ages (l : LaneId) (s : State) : NextAges s (execOpenDelayEnd l s) := by
  unfold execOpenDelayEnd
  split
  · split
    · exact .next (.serveStart (.endOpenDelay (.refl s)))
    · exact .next (.dropPhase (.refl s))
  · exact .same

theorem execOpenEnd_ages (l : LaneId) (s : State) : NextAges s (execOpenEnd l s) := by
  unfold execOpenEnd
  split
  · split
    · exact .next (.serveStart (.enterClosing (.refl s)))
    · exact .next (.dropPhase (.refl s))
  · exact .same

/-! ### Rows and steps -/

/-- Every row ages the records, or makes one for a board without: a command by its answer, the others by their
operations. -/
theorem exec_ages (i : Instr) {s t : State} (h : exec i s = .next t) : AgesOrIsNew s t := by
  cases hf : frameOf i with
  | some pf =>
    obtain ⟨p, f⟩ := pf
    rcases exec_of_frameOf hf s with he | ⟨he, -⟩
    · rw [he] at h
      cases h
      exact takeCommand_ages p f _ s (commandAnswer_ages p f)
    · rw [he] at h
      cases h
      exact (Ages.refl s).orIsNew
  | none =>
    have quiet {o : Host.Outcome State Fault Refusal} (hk : NextAges s o) (h : o = .next t) : AgesOrIsNew s t :=
      (hk t h).orIsNew
    cases i
    case powerOn => exact quiet (.next (.of_no_record rfl)) h
    case clearTimerExpiry => exact quiet (.whenDue (.raise (.setStore (.refl s)))) h
    case frameReceived => exact quiet (.next (.modPort (.refl s))) h
    case frameByteReceived => exact quiet (.next (.modPort (.refl s))) h
    case frameSent => exact quiet (.next (.modPort (.refl s))) h
    case frameGapExpiry => exact quiet (.whenDue (.modPort (.refl s))) h
    case slotAddressChange => exact quiet (.next (.modStation (.refl s))) h
    case stationGapExpiry => exact quiet (.whenDue (.loseRecord (.modStation (.refl s)))) h
    case startStrobe => exact quiet (.next (.stationByte (.refl s))) h
    case endStrobe => exact quiet (.next (.stationByte (.refl s))) h
    case inspectReading => exact quiet (.next (.stationByte (.refl s))) h
    case arrived => exact quiet (.next (.stationByte (.refl s))) h
    case cleared => exact quiet (.next (.stationByte (.refl s))) h
    case stationByteWritten => exact quiet (.next (.stationByte (.refl s))) h
    case paceTimerExpiry => exact quiet (.whenDue (.paceExpired (.refl s))) h
    case checkTimerExpiry => exact quiet (.whenDue (.endCheck (.refl s))) h
    case ejectTimerExpiry => exact quiet (.whenDue (.ejectExpired (.refl s))) h
    case openDelayEnd l => exact quiet (execOpenDelayEnd_ages l s) h
    case openEnd l => exact quiet (execOpenEnd_ages l s) h
    case closingEnd => exact quiet (.whenDue (.serveStart (.finishSegment (.refl s)))) h
    case segmentGapExpiry => exact quiet (.whenDue (.gapExpired (.refl s))) h
    case flowPulse => exact quiet (.next (.flowPulse (.refl s))) h
    case flashReadyExpiry src => exact quiet (execFlashReadyExpiry_ages src s) h
    case laneDeadlineExpiry l => exact quiet (execLaneDeadlineExpiry_ages l s) h
    case returnDeadlineExpiry => exact quiet (execReturnDeadlineExpiry_ages s) h
    case returnPresenceChange level => exact quiet (execReturnPresenceChange_ages level s) h
    case ovenEntryEvent => exact quiet (execOvenEntryEvent_ages s) h
    case transferTimerExpiry => exact quiet (execTransferTimerExpiry_ages s) h
    case encoderPulse => exact quiet (execEncoderPulse_ages s) h
    case ovenSensorRecord => exact quiet (.next (.sensorByte (.refl s))) h
    case ovenSensorByteReceived => exact quiet (.next (.sensorByte (.refl s))) h
    case ovenSensorGapExpiry => exact quiet (.whenDue (.sensorWaiting (.refl s))) h
    case zoneStaleExpiry => exact quiet (.whenDue (.makeStale (.refl s))) h
    case doseTick => exact quiet (.whenDue (.doseAll (.restartDose (.refl s)))) h
    case ovenExitEvent => exact quiet (execOvenExitEvent_ages s) h
    case escalationDeadlineExpiry n => exact quiet (execEscalationDeadlineExpiry_ages n s) h
    case sprayEndTimeOld => exact quiet (.whenDue (.modRecord (.refl s))) h
    all_goals cases hf

theorem step_ages {s t : State} (h : step s = .next t) : AgesOrIsNew s t := by
  unfold step at h
  split at h
  · exact ⟨(exec_ages _ h).records⟩
  · split at h
    · exact exec_ages _ h
    · cases h
      exact ((Ages.refl s).same (u := s.tick) rfl).orIsNew

end Sys2Proof.Machine

open Sys2Proof Machine in
/-- Settles O60: a record of the state after is an aged one of before, and by its serial it is that of the board. -/
theorem Sys2Proof.doseAndTalliesNeverFall : Obligations.DoseAndTalliesNeverFall := by
  intro s t hwithin hstep b hb c hc hserial
  rcases (step_ages hstep).records c hc with ⟨r, hr, hage⟩ | hnew
  · obtain rfl : r = b := List.inj_on_of_nodup_map hwithin.distinct hr hb (hage.serial.symm.trans hserial)
    have hbounded : r.Bounded := ⟨(hwithin.each r hr).dose, (hwithin.each r hr).tallies⟩
    exact ⟨hage.slot, hage.dose hbounded, hage.tallies hbounded, hage.rework, hage.coated, hage.cured⟩
  · exact absurd hserial.symm (hnew b hb)
end

section
/-!
LANE_ENABLE and LANE_DISABLE, the lane settings and the nozzle count (O24, O25).
-/

namespace Sys2Proof.Machine

open Sys2Proof

variable {s : State} {l : LaneId}

/-! ### Changes of one lane -/

theorem modLane_congr {f g : Lane → Lane} (h : f (s.lane l) = g (s.lane l)) : s.modLane l f = s.modLane l g := by
  cases l with
  | lane0 => exact congrArg (fun x => { s with lane0 := x }) h
  | lane1 => exact congrArg (fun x => { s with lane1 := x }) h

theorem modCtl_congr {f g : LaneCtl → LaneCtl} (h : f (s.lane l).ctl = g (s.lane l).ctl) :
    s.modCtl l f = s.modCtl l g :=
  modLane_congr (congrArg (fun c => { s.lane l with ctl := c }) h)

/-- R62, R82: with no ARRIVED waiting there is nothing to take. -/
theorem serveArrived_of_no_arrived (h : ∀ n, (s.lane l).station.boardSlot ≠ some (.arrived n)) :
    s.serveArrived l = s := by
  rw [State.serveArrived]
  split
  · exact absurd ‹_› (h _)
  · rfl

/-! ### LANE_ENABLE (R59) and LANE_DISABLE (R60) -/

/-- R59, R62: the entry to IDLE of a lane in OFF, where nothing waits. -/
theorem enterIdle_of_off (hpending : (s.lane l).ctl.disablePending = false)
    (hslot : ∀ n, (s.lane l).station.boardSlot ≠ some (.arrived n)) :
    s.enterIdle l = s.modCtl l fun c => { c with state := .idle, ejectSubject := none } := by
  rw [State.enterIdle, serveArrived_of_no_arrived (by simpa using hslot)]
  exact modCtl_congr (by simp [hpending])

theorem laneEnableAnswer_lane (s : State) (l : LaneId) :
    laneEnableAnswer .line [toByte (laneNumber l)] s =
      if (s.lane l).ctl.state = .fault then refuse .wrongState s
      else if (s.lane l).ctl.state = .off then accept (laneReply l (s.enterIdle l)) (s.enterIdle l)
      else accept [toByte (s.lane l).ctl.state.code, 0#8]
        (s.modCtl l fun c => { c with disablePending := false }) := by
  simp only [laneEnableAnswer, byteAt_zero, laneOf_laneNumber]
  by_cases hoff : (s.lane l).ctl.state = .off <;> simp [hoff, laneReply, flagByte]

theorem disableLane_of_off (hoff : (s.lane l).ctl.state = .off) : s.disableLane l = s := by
  rw [State.disableLane, hoff]

theorem disableLane_of_idle (hidle : (s.lane l).ctl.state = .idle)
    (hslot : ∀ n, (s.lane l).station.boardSlot ≠ some (.arrived n)) :
    s.disableLane l = s.modCtl l fun c => { c with state := .off, disablePending := false } := by
  rw [State.disableLane, hidle]
  exact serveArrived_of_no_arrived (by simpa using hslot)

theorem disableLane_of_busy (hoff : (s.lane l).ctl.state ≠ .off) (hidle : (s.lane l).ctl.state ≠ .idle) :
    s.disableLane l = s.modCtl l fun c => { c with disablePending := true } := by
  simp only [State.disableLane]

theorem laneDisableAnswer_lane (s : State) (l : LaneId) :
    laneDisableAnswer [toByte (laneNumber l)] s = accept (laneReply l (s.disableLane l)) (s.disableLane l) := by
  simp only [laneDisableAnswer, byteAt_zero, laneOf_laneNumber]
  rfl

end Sys2Proof.Machine

open Sys2Proof Machine in
/-- Settles O24: with no ARRIVED waiting, the entry to IDLE or OFF is the change of the lane's state. -/
theorem Sys2Proof.laneEnableAndDisableByLaneState : Obligations.LaneEnableAndDisableByLaneState := by
  refine ⟨fun s tag rest l hready => ?enable, fun s p tag rest l hready => ?disable⟩
  case enable =>
    intro u c hrest
    subst u c
    rw [exec_sent hready rfl, laneEnableAnswer_lane, sent_ite, sent_ite, taken_lane]
    by_cases hoff : (s.lane l).ctl.state = .off
    · obtain ⟨hpending, hslot⟩ := hrest hoff
      rw [enterIdle_of_off (by rwa [taken_lane]) (by rwa [taken_lane]), laneReply, modCtl_ctl, taken_lane, hpending]
      rfl
    · rw [if_neg hoff, if_neg hoff]
      rfl
  case disable =>
    intro u c hrest
    subst u c
    rw [exec_sent hready rfl, laneDisableAnswer_lane, laneReply]
    by_cases hoff : (s.lane l).ctl.state = .off
    · rw [if_pos hoff, disableLane_of_off (by rwa [taken_lane]), taken_lane, hoff]
      rfl
    rw [if_neg hoff]
    by_cases hidle : (s.lane l).ctl.state = .idle
    · rw [if_pos hidle, disableLane_of_idle (by rwa [taken_lane]) (by rw [taken_lane]; exact hrest hidle), modCtl_ctl]
      rfl
    · rw [if_neg hidle, disableLane_of_busy (by rwa [taken_lane]) (by rwa [taken_lane]), modCtl_ctl, taken_lane]
      rfl

namespace Sys2Proof.Machine

open Sys2Proof

/-! ### SET_LANE_CONFIG (R68) and CLEAR_NOZZLE_COUNT (R70, R123) -/

/-- R68: the ranges of the lane settings. -/
theorem laneSettings_inRange_iff (c : LaneSettings) :
    c.inRange = true ↔ c.onDelayBead ≤ 250 ∧ c.onDelayAtomize ≤ 250 ∧ c.closeLeadBead ≤ 250 ∧
      c.closeLeadAtomize ≤ 250 ∧ c.closeSettleBead ≤ 250 ∧ c.closeSettleAtomize ≤ 250 ∧
      (1 ≤ c.ejectTimeout ∧ c.ejectTimeout ≤ 60) ∧ (1 ≤ c.gapLimit ∧ c.gapLimit ≤ 60) ∧
      1 ≤ c.lowWater ∧ c.lowWater ≤ 64 ∧ 1 ≤ c.nozzleLimit ∧ c.nozzleLimit ≤ 65535 := by
  simp [LaneSettings.inRange, and_assoc]

/-- The payload that carries a lane's settings: nine of one byte, and the service limit. -/
def laneConfigPayload (l : LaneId) (b1 b2 b3 b4 b5 b6 b7 b8 b9 : Byte) (limit : Nat) : List Byte :=
  toByte (laneNumber l) :: b1 :: b2 :: b3 :: b4 :: b5 :: b6 :: b7 :: b8 :: b9 :: bytes16 limit

/-- R68: the settings a payload carries are read back, and replace those of a lane in OFF. -/
theorem setLaneConfigAnswer_payload (l : LaneId) (b1 b2 b3 b4 b5 b6 b7 b8 b9 : Byte) {limit : Nat}
    (hlimit : limit < 65536) (s : State) {c : LaneSettings}
    (hc : c = ⟨b1.toNat, b2.toNat, b3.toNat, b4.toNat, b5.toNat, b6.toNat, b7.toNat, b8.toNat, b9.toNat, limit⟩) :
    setLaneConfigAnswer .line (laneConfigPayload l b1 b2 b3 b4 b5 b6 b7 b8 b9 limit) s =
      if c.inRange = false then refuse .badValue s
      else if (s.lane l).ctl.state ≠ .off then refuse .wrongState s
      else accept [] (s.configureLane l c) := by
  have hsettings : laneSettingsOf (laneConfigPayload l b1 b2 b3 b4 b5 b6 b7 b8 b9 limit) = c := by
    have hword : word16At (laneConfigPayload l b1 b2 b3 b4 b5 b6 b7 b8 b9 limit) 10 = limit := word16At_eq_last hlimit
    rw [laneSettingsOf, hword, hc]
    rfl
  have hlane : laneOf (byteAt (laneConfigPayload l b1 b2 b3 b4 b5 b6 b7 b8 b9 limit) 0) = some l :=
    laneOf_laneNumber l
  rw [setLaneConfigAnswer, if_neg (by simp), if_neg (by simp [laneConfigPayload]), hlane]
  simp only [hsettings, Bool.not_eq_eq_eq_not, Bool.not_true]

theorem clearNozzleAnswer_lane (s : State) (l : LaneId) :
    clearNozzleAnswer .line [toByte (laneNumber l)] s =
      if (s.lane l).ctl.state = .off ∨ (s.lane l).ctl.state = .idle then
        accept (bytes16 (s.lane l).ctl.nozzleCount)
          (s.modLane l fun x => { x with
            ctl := { x.ctl with nozzleCount := 0, serviceDue := false }
            meter := { x.meter with idleDrip := 0 } })
      else refuse .wrongState s := by
  simp only [clearNozzleAnswer, byteAt_zero, laneOf_laneNumber]
  cases l <;> rfl

end Sys2Proof.Machine

open Sys2Proof Machine in
/-- Settles O25: the settings read back from their bytes take effect in OFF exactly when each is in its range. -/
theorem Sys2Proof.laneSettingsAndNozzleCount : Obligations.LaneSettingsAndNozzleCount := by
  refine ⟨fun s tag rest l b1 b2 b3 b4 b5 b6 b7 b8 b9 limit hlimit => ?config, fun s tag rest l hready => ?clear⟩
  case config =>
    intro payload hready u c inRange
    have hanswer : setLaneConfigAnswer .line payload (s.taken .line rest) = _ :=
      setLaneConfigAnswer_payload l b1 b2 b3 b4 b5 b6 b7 b8 b9 hlimit _ (c := c) rfl
    have hrange : inRange ↔ c.inRange = true := by
      rw [laneSettings_inRange_iff]
      simp only [inRange, c, List.forall_mem_cons, List.not_mem_nil, IsEmpty.forall_iff, implies_true,
        and_true]
      omega
    rw [exec_sent hready rfl, hanswer, hrange]
    refine ⟨fun hout => ?_, fun hin => ?_⟩
    · rw [if_pos (by simpa using hout)]
      rfl
    · rw [if_neg (by simpa using hin), State.configureLane]
      simp only [u, taken_lane, apply_ite (accept []), sent_ite]
      rfl
  case clear =>
    intro u c
    rw [exec_sent hready rfl, clearNozzleAnswer_lane, sent_ite, taken_lane]
    rfl
end

section
/-!
LANE_RESET and the eject timer (O26, O27).
-/

namespace Sys2Proof.Machine

open Sys2Proof

variable {s : State} {l : LaneId}

/-! ### LANE_RESET (R71, R72) -/

theorem one_le_freeEntries_iff : 1 ≤ s.freeEntries ↔ s.holds.length < 16 := by
  rw [State.freeEntries]
  omega

/-- R71, R151: a cleared lane with its grant withdrawn, field by field. -/
theorem withdrawLane_eq (s : State) (l : LaneId) :
    s.withdrawLane l =
      let granted := decide (s.gate.grant = some (.lane l))
      { s with gate := { s.gate with
          exit0 := if l = LaneId.lane0 then none else s.gate.exit0
          exit1 := if l = LaneId.lane1 then none else s.gate.exit1
          grant := if granted then none else s.gate.grant
          transferTimer := if granted then none else s.gate.transferTimer } }.modLane l fun x =>
        { ctl := { x.ctl with state := .off, disablePending := false, ejectSubject := none, ejectTimer := none }
          station := x.station.emptied
          checker := x.checker.stopped
          path := PathExec.reset
          meter := { x.meter with segPulses := 0 } } := by
  by_cases h : s.gate.grant = some (.lane l)
  · simp only [State.withdrawLane, h, if_true, decide_true]
    cases l <;> rfl
  · simp only [State.withdrawLane, h, if_false, decide_false, Bool.false_eq_true]
    cases l <;> rfl

@[simp] theorem withdrawLane_holds (s : State) (l : LaneId) : (s.withdrawLane l).holds = s.holds := by
  simp [withdrawLane_eq]

/-- R71, R170, R171: the current board's forced hold, or its removal at a full hold table. -/
theorem abortBoard_eq (s : State) (l : LaneId) (b : BoardRecord) :
    s.abortBoard l b = if s.holds.length < 16 then (s.addReason b.serial .laneAbort).grantHold b (.lane l)
      else raise .holdOverflow (some b.lane) b.serial 2 (s.removeRecord b.serial) := by
  simp only [State.abortBoard, one_le_freeEntries_iff]
  rfl

theorem abortFate_eq (s : State) (l : LaneId) :
    s.abortFate l = if (s.board l).isNone then 0#8 else if s.holds.length < 16 then 1#8 else 2#8 := by
  simp only [State.abortFate, one_le_freeEntries_iff]

theorem laneResetAnswer_lane (s : State) (l : LaneId) :
    laneResetAnswer .line [toByte (laneNumber l)] s =
      accept (toByte (s.lane l).ctl.state.code :: s.abortFate l :: toByte (s.lane l).ctl.queue.length ::
        (s.lane l).ctl.queue.flatMap fun e => bytes32 e.serial ++ [flagByte e.rework]) (s.resetLane l) := by
  simp only [laneResetAnswer, byteAt_zero, laneOf_laneNumber]
  rfl

/-! ### Timers that are due -/

theorem timerDue_of_reached {now t : Time} {timer : Option Time} (ht : timer = some t) (hdue : reached now t = true) :
    timerDue now timer = true := by
  rw [ht]
  exact hdue

theorem modCtl_modCtl (s : State) (l : LaneId) (f g : LaneCtl → LaneCtl) :
    (s.modCtl l f).modCtl l g = s.modCtl l fun c => g (f c) := by cases l <;> rfl

/-- R66: the eject timer's expiry in EJECTING. -/
theorem ejectExpired_of_ejecting (h : (s.lane l).ctl.state = .ejecting) :
    s.ejectExpired l = raise .laneFault (some l) ((s.lane l).ctl.ejectSubject.getD 0) 1
      (s.modCtl l fun c => { c with state := .fault, ejectTimer := none }) := by
  simp only [State.ejectExpired, h, if_true, State.setLaneState, modCtl_modCtl]

end Sys2Proof.Machine

open Sys2Proof Machine in
/-- Settles O26: the lane cleared with its grant withdrawn, then the board's abort, then the gate. -/
theorem Sys2Proof.laneResetClearsLaneAndHoldsBoard : Obligations.LaneResetClearsLaneAndHoldsBoard := by
  intro s tag rest l hready u c granted cleared aborted fate
  have hcleared : u.withdrawLane l = cleared := by
    rw [withdrawLane_eq, taken_gate]
    rfl
  have habort (b : BoardRecord) : cleared.abortBoard l b =
      if s.holds.length < 16 then (cleared.addReason b.serial .laneAbort).grantHold b (.lane l)
      else raise .holdOverflow (some b.lane) b.serial 2 (cleared.removeRecord b.serial) := by
    rw [abortBoard_eq, ← hcleared, withdrawLane_holds, taken_holds]
  rw [exec_sent hready rfl, laneResetAnswer_lane, resetLane_eq, hcleared, abortFate_eq, taken_lane, taken_board,
    taken_gate, taken_holds]
  simp only [habort, granted, decide_eq_true_eq]
  rfl

open Sys2Proof Machine in
/-- Settles O27: the timer is due, and its expiry in EJECTING faults the lane. -/
theorem Sys2Proof.ejectTimeoutFaultsLane : Obligations.EjectTimeoutFaultsLane := by
  intro s l t htimer hdue hstate
  rw [exec, execEjectTimerExpiry, if_pos (timerDue_of_reached htimer hdue), ejectExpired_of_ejecting hstate]
  cases (s.lane l).ctl.ejectSubject <;> rfl
end

section
/-!
The BOARD slot: a complete ARRIVED and a CLEARED by lane state (O30, O31).
-/

namespace Sys2Proof.Machine

open Sys2Proof

variable {s : State} {l : LaneId} {n : Nat} {d : List Byte}

/-! ### Changes of a Station Port -/

theorem modStation_modStation (s : State) (l : LaneId) (f g : StationPort → StationPort) :
    (s.modStation l f).modStation l g = s.modStation l fun st => g (f st) := by cases l <;> rfl

theorem modStation_of_same {f : StationPort → StationPort} (h : f (s.lane l).station = (s.lane l).station) :
    s.modStation l f = s := by
  cases l with
  | lane0 => exact congrArg (fun st => { s with lane0 := { s.lane0 with station := st } }) h
  | lane1 => exact congrArg (fun st => { s with lane1 := { s.lane1 with station := st } }) h

/-- A record that enters an empty BOARD slot and leaves it at once. -/
theorem modStation_slot_freed (r : BoardReport) (hslot : (s.lane l).station.boardSlot = none) :
    ((s.modStation l fun st => { st with boardSlot := some r }).modStation l fun st =>
      { st with boardSlot := none }) = s := by
  rw [modStation_modStation]
  exact modStation_of_same (by rw [← hslot])

/-! ### A waiting ARRIVED by lane state (R62, R82) -/

section Waiting

variable (hslot : (s.lane l).station.boardSlot = some (.arrived n))

include hslot

theorem serveArrived_of_idle (hidle : (s.lane l).ctl.state = .idle) :
    s.serveArrived l = (s.modStation l fun st => { st with boardSlot := none }).takeArrived l n := by
  simp only [State.serveArrived, hslot, hidle]

theorem serveArrived_of_off (hoff : (s.lane l).ctl.state = .off) :
    s.serveArrived l = raise .strayBoard (some l) n 2 (s.modStation l fun st => { st with boardSlot := none }) := by
  simp only [State.serveArrived, hslot, hoff]

theorem serveArrived_of_busy (hoff : (s.lane l).ctl.state ≠ .off) (hidle : (s.lane l).ctl.state ≠ .idle) :
    s.serveArrived l = s := by
  simp only [State.serveArrived, hslot]

end Waiting

/-! ### What an IDLE lane makes of an ARRIVED (R61) -/

theorem leaveQueue_eq (s : State) (l : LaneId) (n : Serial) :
    s.leaveQueue l n = s.modCtl l fun c => { c with queue := c.queue.filter fun e => decide (e.serial ≠ n) } :=
  modCtl_congr (congrArg (fun q => { (s.lane l).ctl with queue := q })
    (List.filter_congr fun e _ => bne_eq_decide_ne e.serial n))

/-- R61: any other serial is a stray of source 1. -/
theorem takeArrived_of_stray (h : ∀ e ∈ (s.lane l).ctl.queue, e.serial ≠ n) :
    s.takeArrived l n = (raise .strayBoard (some l) n 1 s).enterEjecting l none := by
  rw [State.takeArrived, if_neg (by simpa using h)]

/-- R61: a match at the head starts the check. -/
theorem takeArrived_of_head {b : BoardRecord} (hb : s.record? n = some b)
    (h : (s.lane l).ctl.queue.head?.map (·.serial) = some n) :
    s.takeArrived l n = (s.leaveQueue l n).startCheck l b := by
  obtain ⟨e, he, hserial⟩ := Option.map_eq_some_iff.1 h
  have hqueued : (s.lane l).ctl.queue.any (·.serial == n) = true :=
    List.any_eq_true.2 ⟨e, List.mem_of_head? he, by simpa using hserial⟩
  rw [State.takeArrived, if_pos hqueued, hb]
  exact if_pos h

/-- R61: a match further down asks for a hold with ARRIVAL_ORDER. -/
theorem takeArrived_of_further {b : BoardRecord} (hb : s.record? n = some b)
    (hqueued : ∃ e ∈ (s.lane l).ctl.queue, e.serial = n) (h : (s.lane l).ctl.queue.head?.map (·.serial) ≠ some n) :
    s.takeArrived l n = ((s.leaveQueue l n).addReason n .arrivalOrder).laneHold l n := by
  rw [State.takeArrived, if_pos (by simpa using hqueued), hb]
  exact if_neg h

/-! ### A record that enters the BOARD slot (R74, R77, R78) -/

theorem boardReportOf_arrived (hn : n < 2 ^ 32) : boardReportOf (1#8 :: bytes32 n) = .arrived n := by
  have hserial : word32At (1#8 :: bytes32 n) 1 = n := word32At_eq hn []
  rw [boardReportOf, hserial]
  exact if_pos rfl

theorem boardReportOf_cleared {b : Byte} (hb : b ≠ 1#8) : boardReportOf [b] = .cleared := by
  simp [boardReportOf, hb]

/-- R75: the byte that completes a BOARD record empties the assembler and hands the record to its slot. -/
theorem stationByte_completes {b : Byte} (hbytes : (s.lane l).station.boardAsm.bytes ++ [b] = d)
    (hd : recordComplete .boardSlot d = true) :
    s.stationByte l .boardSlot b =
      (s.modStation l fun st => { st with boardAsm := ⟨[], none⟩ }).enterSlot l .boardSlot d := by
  have hassembled : ((s.lane l).station.assembler .boardSlot).bytes ++ [b] = d := hbytes
  rw [State.stationByte, hassembled, if_pos hd]
  rfl

/-- R77, R78: a record that completes at a full BOARD slot is lost, a stray of source 3. -/
theorem enterSlot_of_full (hn : lostSerial (boardReportOf d) = n)
    (hslot : (s.lane l).station.boardSlot.isSome = true) :
    s.enterSlot l .boardSlot d = raise .strayBoard (some l) n 3
      (s.modStation l fun st => { st with boardOverruns := min 255 (st.boardOverruns + 1) }) := by
  simp only [State.enterSlot, hslot, if_true, hn]
  rfl

theorem enterSlot_of_arrived (hr : boardReportOf d = .arrived n) (hslot : (s.lane l).station.boardSlot = none) :
    s.enterSlot l .boardSlot d =
      (s.modStation l fun st => { st with boardSlot := some (.arrived n) }).serveArrived l := by
  simp [State.enterSlot, State.serveBoard, hslot, hr]

section Arrived

variable (hr : boardReportOf d = .arrived n) (hslot : (s.lane l).station.boardSlot = none)

include hr hslot

theorem enterSlot_arrived_of_off (hoff : (s.lane l).ctl.state = .off) :
    s.enterSlot l .boardSlot d = raise .strayBoard (some l) n 2 s := by
  rw [enterSlot_of_arrived hr hslot, serveArrived_of_off (n := n) (by simp) (by rwa [modStation_ctl]),
    modStation_slot_freed _ hslot]

theorem enterSlot_arrived_of_idle (hidle : (s.lane l).ctl.state = .idle) :
    s.enterSlot l .boardSlot d = s.takeArrived l n := by
  rw [enterSlot_of_arrived hr hslot, serveArrived_of_idle (n := n) (by simp) (by rwa [modStation_ctl]),
    modStation_slot_freed _ hslot]

theorem enterSlot_arrived_of_busy (hoff : (s.lane l).ctl.state ≠ .off) (hidle : (s.lane l).ctl.state ≠ .idle) :
    s.enterSlot l .boardSlot d = s.modStation l fun st => { st with boardSlot := some (.arrived n) } := by
  rw [enterSlot_of_arrived hr hslot,
    serveArrived_of_busy (n := n) (by simp) (by rwa [modStation_ctl]) (by rwa [modStation_ctl])]

end Arrived

/-- R66, R82: a CLEARED that finds the slot empty leaves it at once, and ends an eject. -/
theorem enterSlot_of_cleared (hr : boardReportOf d = .cleared) (hslot : (s.lane l).station.boardSlot = none) :
    s.enterSlot l .boardSlot d = if (s.lane l).ctl.state = .ejecting then s.endEject l else s := by
  simp [State.enterSlot, State.serveBoard, hslot, hr, modStation_slot_freed]

/-! ### The end of an eject (R66) -/

/-- R66: the entry to IDLE or OFF as one change of the Lane Controller, and then the slot. -/
theorem endEject_eq (s : State) (l : LaneId) :
    s.endEject l = (s.modCtl l fun c => { c with
      state := if (s.lane l).ctl.disablePending then .off else .idle
      disablePending := false, ejectSubject := none, ejectTimer := none }).serveArrived l := by
  rw [State.endEject, State.enterIdle, modCtl_modCtl]
  exact congrArg (State.serveArrived · l) (modCtl_congr rfl)

end Sys2Proof.Machine

open Sys2Proof Machine in
/-- Settles O30: the record is read back from its bytes, and enters its slot as the lane state has it. -/
theorem Sys2Proof.arrivedIsMatchedByLaneState : Obligations.ArrivedIsMatchedByLaneState := by
  intro s l n hn hbytes u q run
  have hrecord := boardReportOf_arrived hn
  have hrun {t : State} (h : u.enterSlot l .boardSlot (1#8 :: bytes32 n) = t) : run t := by
    subst h
    exact congrArg Host.Outcome.next (stationByte_completes (by rw [hbytes]; rfl) rfl)
  have hstation : (u.lane l).station.boardSlot = (s.lane l).station.boardSlot := by simp [u]
  have hctl : (u.lane l).ctl = (s.lane l).ctl := modStation_ctl ..
  have hfind : u.record? n = s.record? n := by simp [u, State.record?]
  rw [← hstation, ← hctl, ← hfind]
  have hq : q = (u.lane l).ctl.queue := by rw [hctl]
  rw [hq]
  refine ⟨fun hfull => hrun ?full, fun hslot hoff => hrun ?off, fun hslot hoff hidle => hrun ?busy,
    fun hslot hidle hnone => hrun ?stray, fun b hslot hidle hb hhead => hrun ?head,
    fun b hslot hidle hb hqueued hhead => hrun ?further⟩
  case full => exact enterSlot_of_full (congrArg lostSerial hrecord) hfull
  case off => exact enterSlot_arrived_of_off hrecord hslot hoff
  case busy => exact enterSlot_arrived_of_busy hrecord hslot hoff hidle
  case stray =>
    rw [enterSlot_arrived_of_idle hrecord hslot hidle, takeArrived_of_stray hnone]
    cases l <;> rfl
  case head =>
    obtain rfl := record?_serial u n b hb
    rw [enterSlot_arrived_of_idle hrecord hslot hidle, takeArrived_of_head hb hhead, leaveQueue_eq]
    cases l <;> rfl
  case further =>
    rw [enterSlot_arrived_of_idle hrecord hslot hidle, takeArrived_of_further hb hqueued hhead, leaveQueue_eq]

open Sys2Proof Machine in
/-- Settles O31: a CLEARED that finds its slot empty ends an eject, and the end of an eject serves the slot. -/
theorem Sys2Proof.clearedEndsEject : Obligations.ClearedEndsEject := by
  intro s l b hb hbytes u off ended
  have hrecord := boardReportOf_cleared hb
  have hexec : exec (.cleared l b) s = .next (u.enterSlot l .boardSlot [b]) :=
    congrArg Host.Outcome.next (stationByte_completes (by rw [hbytes]; rfl) (by simp [recordComplete, hb]))
  have hstation : (u.lane l).station.boardSlot = (s.lane l).station.boardSlot := by simp [u]
  have hctl : (u.lane l).ctl = (s.lane l).ctl := by simp [u]
  refine ⟨fun hslot => ?empty, fun hfull => ?full, fun n hslot => ?waiting⟩
  case empty =>
    rw [← hstation] at hslot
    rw [hexec, enterSlot_of_cleared hrecord hslot, endEject_eq, serveArrived_of_no_arrived (by simp [hslot]), hctl]
  case full => rw [hexec, enterSlot_of_full (congrArg lostSerial hrecord) (by rwa [hstation]), lostSerial]
  case waiting =>
    rw [endEject_eq]
    change (ended s).serveArrived l = _
    cases hoff : off with
    | true =>
      exact serveArrived_of_off (by simpa [ended] using hslot) (by simp [ended, hoff])
    | false =>
      exact serveArrived_of_idle (by simpa [ended] using hslot) (by simp [ended, hoff])
end

section
/-!
The metering arithmetic (O44).
-/

namespace Sys2Proof.Machine

open Sys2Proof

/-! ### Roundings as floors (R130, R134) -/

/-- R134: the film of an area of 1 cm² or more is 10 × tally ÷ area, rounded half up. -/
theorem film_eq_floor (tally : Nat) {area : Nat} (h : 1 ≤ area) :
    film tally area = min 65535 ⌊(10 * tally / area + 1 / 2 : ℚ)⌋₊ := by
  have harea : (area : ℚ) ≠ 0 := Nat.cast_ne_zero.2 (by omega)
  have hquotient : (10 * tally / area + 1 / 2 : ℚ) = ((20 * tally + area : ℕ) : ℚ) / ((2 * area : ℕ) : ℚ) := by
    push_cast
    field_simp
    ring
  rw [hquotient, Nat.floor_div_eq_div, film]

/-- R130: the dry volume is rounded down. -/
theorem dryVolume_eq_floor (m : Material) (pulses : Nat) :
    dryVolume m pulses = ⌊(pulses * m.pulseVolume * m.solids / 1000 : ℚ)⌋₊ := by
  have hquotient : (pulses * m.pulseVolume * m.solids / 1000 : ℚ) =
      ((pulses * m.pulseVolume * m.solids : ℕ) : ℚ) / ((1000 : ℕ) : ℚ) := by
    push_cast
    rfl
  rw [hquotient, Nat.floor_div_eq_div, dryVolume, wetVolume]

/-! ### The deviation test and its count (R69, R132, R133) -/

theorem deviates_iff (m : Material) (seg : Segment) (pulses time : Nat) :
    deviates m seg pulses time = true ↔ 0 < (seg.flow * time : ℤ) ∧
      (m.flowTolerance * (seg.flow * time) : ℤ) < |(pulses * m.pulseVolume - seg.flow * time : ℤ)| * 100 := by
  simp only [deviates, wetVolume, Bool.and_eq_true, decide_eq_true_eq, Nat.cast_mul]

/-- R69: the counter after a deviation, and SERVICE_DUE where it reaches the limit. -/
theorem countDeviation_of_ctl {s : State} {l : LaneId} {c : LaneCtl} (hc : (s.lane l).ctl = c) :
    s.countDeviation l =
      if c.settings.nozzleLimit ≤ min 65535 (c.nozzleCount + 1) ∧ c.serviceDue = false then
        raise .serviceDue (some l) 0 (min 65535 (c.nozzleCount + 1))
          (s.modCtl l fun x => { x with nozzleCount := min 65535 (c.nozzleCount + 1), serviceDue := true })
      else s.modCtl l fun x => { x with nozzleCount := min 65535 (c.nozzleCount + 1) } := by
  subst hc
  rfl

theorem handOver_of_board {s : State} {l : LaneId} {b : BoardRecord} (hb : s.board l = some b) (seg : Segment)
    (pulses time : Nat) :
    s.handOver l seg pulses time =
      let m := (s.recipe b.slot).materialD
      let tallied := s.modRecord b.serial fun r => { r with
        tallies := r.tallies.set seg.area (min (2 ^ 32 - 1) (r.tallies[seg.area] + dryVolume m pulses)) }
      if deviates m seg pulses time then (tallied.addReason b.serial .flowDeviation).countDeviation l
      else tallied := by
  rw [State.handOver, hb]
  rfl

end Sys2Proof.Machine

open Sys2Proof Machine in
/-- Settles O44: the roundings are floors of quotients, and the deviation test is one on integers. -/
theorem Sys2Proof.completionIsMeteredExactly : Obligations.CompletionIsMeteredExactly := by
  refine ⟨fun tally area h => film_eq_floor tally h, fun s l b seg pulses time hb => ?_⟩
  intro m dry wet expected c u count
  have hdry : dryVolume (s.recipe b.slot).materialD pulses = dry := dryVolume_eq_floor m pulses
  have hdeviates : deviates (s.recipe b.slot).materialD seg pulses time = true ↔ _ := deviates_iff m seg pulses time
  rw [handOver_of_board hb]
  simp only [hdry, hdeviates]
  rw [countDeviation_of_ctl (c := c) (by simp [c])]
  rfl
end

section
/-!
The end of a transfer, by the entry event or the timeout (O48).
-/

namespace Sys2Proof.Machine

open Sys2Proof

variable {s : State} {l : LaneId} {b : BoardRecord} {w : Waiting}

/-! ### The board under a grant (R148, R149) -/

theorem grantedSerial_lane (hb : s.board l = some b) : s.grantedSerial (.lane l) = some b.serial := by
  rw [State.grantedSerial, hb, Option.map_some]

theorem grantedSerial_station (hw : s.gate.station = some w) : s.grantedSerial .returnStation = some w.serial := by
  rw [State.grantedSerial, hw, Option.map_some]

/-! ### The entry event (R148, R150) -/

theorem execOvenEntryEvent_of_grant {src : Source} {n : Serial} (hgrant : s.gate.grant = some src)
    (hn : s.grantedSerial src = some n) :
    execOvenEntryEvent s = .next ((s.endGrant.enterOven n).freeSource src).reevaluate := by
  rw [execOvenEntryEvent, hgrant]
  simp only [hn]

/-! ### The transfer timeout (R149) -/

theorem execTransferTimerExpiry_of_grant {src : Source} {t : Time} (ht : s.gate.transferTimer = some t)
    (hdue : reached s.clock t = true) (hgrant : s.gate.grant = some src) :
    execTransferTimerExpiry s = .next (s.transferFails src).reevaluate := by
  rw [execTransferTimerExpiry, if_pos (timerDue_of_reached ht hdue), hgrant]

theorem transferFails_lane (hb : s.board l = some b) :
    s.transferFails (.lane l) = (s.endGrant.addReason b.serial .transferFault).laneHold l b.serial := by
  rw [State.transferFails, grantedSerial_lane hb]

theorem transferFails_station (hw : s.gate.station = some w) :
    s.transferFails .returnStation = s.endGrant.stationFails w.serial .transferFault := by
  rw [State.transferFails, grantedSerial_station hw]

theorem stationFails_of_record {n : Serial} {r : Reason} (hb : (s.addReason n r).record? n = some b) :
    s.stationFails n r = ((s.addReason n r).ovenHold b .returnStation).emptyStation := by
  rw [State.stationFails, hb]

end Sys2Proof.Machine

open Sys2Proof Machine in
/-- Settles O48: by its grant a transfer has a board, which the entry event moves and the timeout holds. -/
theorem Sys2Proof.transferEndsByEntryOrTimeout : Obligations.TransferEndsByEntryOrTimeout := by
  refine ⟨fun s => ?entry, fun s t ht hdue => ?timeout⟩
  case entry =>
    intro entered
    refine ⟨fun hgrant => ?_, fun l b hgrant hb => ?_, fun w hgrant hw => ?_⟩
    · rw [exec, execOvenEntryEvent, hgrant]
    · exact execOvenEntryEvent_of_grant hgrant (grantedSerial_lane hb)
    · exact execOvenEntryEvent_of_grant hgrant (grantedSerial_station hw)
  case timeout =>
    intro u
    refine ⟨fun l b hgrant hb => ?_, fun w b hgrant hw hb => ?_⟩
    · exact (execTransferTimerExpiry_of_grant ht hdue hgrant).trans (by rw [transferFails_lane hb]; rfl)
    · have hrecord : (s.endGrant.addReason w.serial .transferFault).record? w.serial = some b := hb
      exact (execTransferTimerExpiry_of_grant ht hdue hgrant).trans
        (by rw [transferFails_station hw, stationFails_of_record hrecord]; rfl)
end

section
/-!
POWER_ON (O15), and the assemblers of the Station Ports (O28).
-/

namespace Sys2Proof.Machine

open Sys2Proof

/-- R83: a lane after power-on; the level of its address lines is an input and stays. -/
theorem powered_eq (x : Lane) :
    x.powered = { Lane.reset with station := { StationPort.reset with address := x.station.address } } := rfl

end Sys2Proof.Machine

open Sys2Proof Machine in
/-- Settles O15: every block but the inputs is the reset state's. -/
theorem Sys2Proof.powerOnRestoresReset : Obligations.PowerOnRestoresReset := by
  intro s
  rw [exec, execPowerOn, powered_eq, powered_eq]

namespace Sys2Proof.Machine

open Sys2Proof

variable {s : State} {l : LaneId} {slot : StationSlot} {b : Byte} {d : List Byte}

/-! ### A byte that completes no record (R75) -/

theorem stationByte_extends (hd : ((s.lane l).station.assembler slot).bytes ++ [b] = d)
    (hpart : recordComplete slot d = false) :
    s.stationByte l slot b = s.modStation l fun st => st.setAssembler slot ⟨d, some (s.clock + 2#32)⟩ := by
  rw [State.stationByte, hd, hpart]
  rfl

/-- R74: an ARRIVED is complete with its fifth byte. -/
theorem recordComplete_arrived (hhead : d.head? = some 1#8) : recordComplete .boardSlot d = decide (d.length = 5) := by
  obtain ⟨rest, rfl⟩ := List.head?_eq_some_iff.1 hhead
  rfl

/-! ### A record that is lost (R77, R78) -/

theorem stationGapExpiry_of_due {t : Time} (hgap : ((s.lane l).station.assembler slot).gap = some t)
    (hdue : reached s.clock t = true) :
    exec (.stationGapExpiry l slot) s =
      .next ((s.modStation l fun st => st.setAssembler slot ⟨[], none⟩).loseRecord l slot 0) := by
  have hd : s.stationGapDue l slot = true := timerDue_of_reached hgap hdue
  rw [exec, execStationGapExpiry, if_pos hd]
  rfl

theorem addBoardReason_of_board {b : BoardRecord} (hb : s.board l = some b) (r : Reason) :
    s.addBoardReason l r = s.addReason b.serial r := by
  rw [State.addBoardReason, hb]

@[simp] theorem modStation_board (s : State) (l m : LaneId) (f : StationPort → StationPort) :
    (s.modStation l f).board m = s.board m := by
  simp only [State.board, modStation_records]

/-- R77, R78: a lost START counts, and in ARMED and SPRAYING it is a reason of the lane's board. -/
theorem loseRecord_start (s : State) (l : LaneId) (n : Serial) :
    s.loseRecord l .startSlot n =
      if (s.lane l).ctl.state = .armed ∨ (s.lane l).ctl.state = .spraying then
        (s.modStation l fun st => { st with startOverruns := min 255 (st.startOverruns + 1) }).addBoardReason l .strobeLoss
      else s.modStation l fun st => { st with startOverruns := min 255 (st.startOverruns + 1) } := rfl

/-- R77, R78: a lost END only counts. -/
theorem loseRecord_end (s : State) (l : LaneId) (n : Serial) :
    s.loseRecord l .endSlot n = s.modStation l fun st => { st with endOverruns := min 255 (st.endOverruns + 1) } := rfl

/-- R77, R78: a lost reading counts, and in CHECKING it is a reason of the lane's board. -/
theorem loseRecord_inspect (s : State) (l : LaneId) (n : Serial) :
    s.loseRecord l .inspectSlot n =
      if (s.lane l).ctl.state = .checking then (s.modStation l fun st => { st with
        inspectOverruns := min 255 (st.inspectOverruns + 1) }).addBoardReason l .inspectionLoss
      else s.modStation l fun st => { st with inspectOverruns := min 255 (st.inspectOverruns + 1) } := rfl

/-- R77, R78: a lost BOARD record counts and is a stray of source 3. -/
theorem loseRecord_board (s : State) (l : LaneId) (n : Serial) :
    s.loseRecord l .boardSlot n = raise .strayBoard (some l) n 3
      (s.modStation l fun st => { st with boardOverruns := min 255 (st.boardOverruns + 1) }) := rfl

end Sys2Proof.Machine

open Sys2Proof Machine in
/-- Settles O28: a byte short of a record extends its assembler, and the gap timer's expiry loses what was assembled. -/
theorem Sys2Proof.partialRecordsAreAssembledOrLost : Obligations.PartialRecordsAreAssembledOrLost := by
  constructor
  · intro s l b gap
    have hextends (slot : StationSlot) (d : List Byte) (hd : ((s.lane l).station.assembler slot).bytes ++ [b] = d)
        (hpart : recordComplete slot d = false) : exec (.stationByteWritten l slot b) s =
          .next (s.modStation l fun st => st.setAssembler slot ⟨d, gap⟩) :=
      congrArg Host.Outcome.next (stationByte_extends hd hpart)
    refine ⟨fun hempty => hextends .startSlot _ (congrArg (· ++ [b]) hempty) rfl,
      fun hempty => hextends .endSlot _ (congrArg (· ++ [b]) hempty) rfl,
      fun hempty => hextends .inspectSlot _ (congrArg (· ++ [b]) hempty) rfl,
      fun got hgot hlen hhead => hextends .boardSlot _ (congrArg (· ++ [b]) hgot) ?_⟩
    rw [recordComplete_arrived hhead, decide_eq_false_iff_not, List.length_append, List.length_singleton]
    omega
  · intro s l t hdue x add
    have hadd (r : Reason) (f : StationPort → StationPort) :
        (s.modStation l f).addBoardReason l r = add r (s.modStation l f) := by
      unfold State.addBoardReason
      rw [modStation_board]
      dsimp only [add]
      cases s.board l <;> rfl
    refine ⟨fun hgap => ?start, fun hgap => ?ends, fun hgap => ?inspect, fun hgap => ?board⟩
    case start =>
      intro u
      rw [stationGapExpiry_of_due (slot := .startSlot) hgap hdue, loseRecord_start, modStation_modStation, hadd,
        modStation_ctl]
      rfl
    case ends =>
      rw [stationGapExpiry_of_due (slot := .endSlot) hgap hdue, loseRecord_end, modStation_modStation]
      rfl
    case inspect =>
      intro u
      rw [stationGapExpiry_of_due (slot := .inspectSlot) hgap hdue, loseRecord_inspect, modStation_modStation, hadd,
        modStation_ctl]
      rfl
    case board =>
      rw [stationGapExpiry_of_due (slot := .boardSlot) hgap hdue, loseRecord_board, modStation_modStation]
      rfl
end

section
/-!
The Mask Checker: the end of the check and its ruling (O33), and the readings as they are taken (O32).
-/

namespace Sys2Proof.Machine

open Sys2Proof

variable {s : State} {l : LaneId} {b : BoardRecord}

/-! ### Flag sets -/

theorem setAny_setOf (n : Nat) (f : Fin n → Bool) : setAny (setOf n f) = true ↔ ∃ k, f k = true := by
  simp [setAny, setOf, Vector.any_eq_true, Fin.exists_iff]

theorem setUnion_setOf {n : Nat} (v : FlagSet n) (f : Fin n → Bool) :
    setUnion v (setOf n f) = Vector.ofFn fun k => v[k] || f k :=
  congrArg Vector.ofFn (funext fun k => by simp [setOf])

/-! ### The end of the check (R92 to R95) -/

theorem modChecker_modChecker (s : State) (l : LaneId) (f g : MaskChecker → MaskChecker) :
    (s.modChecker l f).modChecker l g = s.modChecker l fun m => g (f m) := by
  cases l <;> rfl

@[simp] theorem modChecker_board (s : State) (l m : LaneId) (f : MaskChecker → MaskChecker) :
    (s.modChecker l f).board m = s.board m := by
  simp only [State.board, modChecker_records]

/-- R92, R93: the check of a lane in CHECKING ends with the readings behind late, and the ruling follows. -/
theorem endCheck_of_checking (hx : (s.lane l).ctl.state = .checking) :
    s.endCheck l = ((s.modStation l fun st => { st with inspectQueue := [] }).modChecker l fun m => { m with
      checkTimer := none, paceTimer := none, ready := false
      lateCount := min 65535 (m.lateCount + (s.lane l).station.inspectQueue.length) }).ruling l := by
  rw [State.endCheck, if_pos hx, State.discardReadings, modChecker_modChecker]
  rfl

/-- R94: a CRITICAL check slot that is not PRESENT. -/
theorem criticalUnmasked_any (classes : List CheckClass) (b : BoardRecord) :
    setAny (criticalUnmasked classes b) = true ↔
      ∃ k : Fin 16, (decide (classes[k.val]? = some .critical) && decide (b.verdicts[k] ≠ .present)) = true :=
  setAny_setOf 16 _

/-- R94: a board with a CRITICAL check slot unmasked is held for MASK_CRITICAL. -/
theorem ruling_of_unmasked (hb : s.board l = some b)
    (hbad : setAny (criticalUnmasked (s.recipe b.slot).featuresD b) = true) :
    s.ruling l = (s.modRecord b.serial fun r => { r.addReason .maskCritical with
      maskCritical := setUnion r.maskCritical (criticalUnmasked (s.recipe b.slot).featuresD b) }).laneHold l b.serial := by
  rw [State.ruling, hb]
  exact if_pos hbad

/-- R95, R112: with no CRITICAL check slot unmasked the path is compared with the board. -/
theorem ruling_of_masked (hb : s.board l = some b)
    (hgood : ¬ setAny (criticalUnmasked (s.recipe b.slot).featuresD b) = true) :
    s.ruling l = s.pathCheck l b := by
  rw [State.ruling, hb]
  exact if_neg hgood

end Sys2Proof.Machine

open Sys2Proof Machine in
/-- Settles O33: the check timer's expiry ends the check, and the cases are those of the ruling and the path check. -/
theorem Sys2Proof.checkEndRulesTheBoard : Obligations.CheckEndRulesTheBoard := by
  intro s l t b htimer hdue hx hb u unmasked pe
  have hends : exec (.checkTimerExpiry l) s = .next (u.ruling l) := by
    rw [exec, execCheckTimerExpiry, if_pos (timerDue_of_reached htimer hdue), endCheck_of_checking hx]
  have hboard : u.board l = some b := by simp only [u, modChecker_board, modStation_board, hb]
  have hrecipe : (u.recipe b.slot).featuresD = (s.store.slots[b.slot]).featuresD := by
    simp only [u, State.recipe, modChecker_store, modStation_store]
  have hany : setAny (criticalUnmasked (u.recipe b.slot).featuresD b) = true ↔ ∃ k, unmasked k = true := by
    rw [hrecipe, criticalUnmasked_any]
  have hpath : (u.lane l).path = pe := by simp only [u, modChecker_path, modStation_path, pe]
  have hmasked (hall : ∀ k, unmasked k = false) : exec (.checkTimerExpiry l) s = .next (u.pathCheck l b) := by
    rw [hends, ruling_of_masked hboard (by simp [hany, hall])]
  refine ⟨fun hbad => ?critical, fun hall hfull hslot => ?mismatch, fun hall hmatch => ?armed⟩
  case critical =>
    rw [hends, ruling_of_unmasked hboard (hany.2 hbad), hrecipe]
    simp only [criticalUnmasked, setUnion_setOf]
    rfl
  case mismatch => rw [hmasked hall, State.pathCheck, hpath, if_pos ⟨hfull, hslot⟩]
  case armed =>
    rw [hmasked hall, State.pathCheck, hpath, if_neg (by tauto)]
    rfl

namespace Sys2Proof.Machine

open Sys2Proof

variable {s : State} {l : LaneId} {b : BoardRecord} {rd : Reading} {rest : List Reading}

/-! ### Readings (R81, R88 to R92) -/

/-- R75: the byte that completes a record empties its assembler and hands the record to its slot. -/
theorem stationByte_completes_slot {slot : StationSlot} {c : Byte} {d : List Byte}
    (hd : ((s.lane l).station.assembler slot).bytes ++ [c] = d) (hcomplete : recordComplete slot d = true) :
    s.stationByte l slot c = (s.modStation l fun st => st.setAssembler slot ⟨[], none⟩).enterSlot l slot d := by
  rw [State.stationByte, hd, if_pos hcomplete]
  rfl

theorem modChecker_congr {f g : MaskChecker → MaskChecker} (h : f (s.lane l).checker = g (s.lane l).checker) :
    s.modChecker l f = s.modChecker l g :=
  modLane_congr (congrArg (fun c => { s.lane l with checker := c }) h)

theorem modStation_congr {f g : StationPort → StationPort} (h : f (s.lane l).station = g (s.lane l).station) :
    s.modStation l f = s.modStation l g :=
  modLane_congr (congrArg (fun st => { s.lane l with station := st }) h)

/-- R90: ABSENT stands, then PRESENT; two UNREADABLE readings leave UNREADABLE. -/
theorem combine_eq (v : Verdict) (r : ReadResult) :
    combine v r = if v = .absent ∨ r = .absent then .absent else if v = .present ∨ r = .present then .present
      else .unreadable := by
  cases v <;> cases r <;> rfl

/-- R88 to R92: what the map entry of a reading has the checker do, the reading being taken. -/
def State.judgeReading (w : State) (l : LaneId) (b : BoardRecord) (rd : Reading) : State :=
  match (w.recipe b.slot).map[rd.code] with
  | .endMark => w.endCheck l
  | .none => w.modChecker l fun m => { m with unmappedCount := satAdd 65535 m.unmappedCount 1 }
  | .checkSlot k notice => w.readCheckSlot l b rd k notice

/-- R88: a ready checker takes the head reading, is ready no more, and starts its pace timer. -/
theorem takeReading_of_ready (hq : (s.lane l).station.inspectQueue = rd :: rest) (hb : s.board l = some b)
    (hready : (s.lane l).checker.ready = true) :
    s.takeReading l = ((s.modStation l fun st => { st with inspectQueue := rest }).modChecker l fun m => { m with
      ready := false, paceTimer := some (s.clock + 1#32) }).judgeReading l b rd := by
  rw [State.takeReading, hq, hb]
  dsimp only
  rw [if_pos hready, State.judgeReading]
  simp only [State.recipe, modChecker_store, modStation_store]
  rfl

/-- R88: a checker that is not ready leaves the readings waiting. -/
theorem takeReading_of_not_ready (hready : (s.lane l).checker.ready = false) : s.takeReading l = s := by
  rw [State.takeReading]
  split
  · exact if_neg (by simp [hready])
  · rfl

theorem takeReading_of_empty (hq : (s.lane l).station.inspectQueue = []) : s.takeReading l = s := by
  rw [State.takeReading, hq]

/-- R77, R81: a reading that has room waits behind the others, and the queue is served. -/
theorem enterSlot_inspect {d : List Byte} (hroom : (s.lane l).station.inspectQueue.length < 4) :
    s.enterSlot l .inspectSlot d =
      (s.modStation l fun st => { st with inspectQueue := st.inspectQueue ++ [readingOf d] }).serveInspect l :=
  if_neg (Nat.not_le.2 hroom)

/-- R77, R78: a reading that completes at a full queue is lost. -/
theorem enterSlot_inspect_of_full {d : List Byte} (hfull : 4 ≤ (s.lane l).station.inspectQueue.length) :
    s.enterSlot l .inspectSlot d = s.loseRecord l .inspectSlot 0 := if_pos hfull

end Sys2Proof.Machine

open Sys2Proof Machine in
/-- Settles O32: a reading is served by the lane state and the checker's pace, and taken by its map entry. -/
theorem Sys2Proof.readingIsTakenByMapEntry : Obligations.ReadingIsTakenByMapEntry := by
  intro s l x q combined take
  have htake (v w : State) (b : BoardRecord) (rd : Reading)
      (hw : w = v.modChecker l fun m => { m with ready := false, paceTimer := some (s.clock + 1#32) })
      (hv : v.store = s.store) (hx : (v.lane l).ctl.state = .checking) :
      w.judgeReading l b rd = take v b rd (v.lane l).station.inspectQueue.length := by
    subst hw
    have hrecipe (m : LaneId) (f : MaskChecker → MaskChecker) :
        ((v.modChecker m f).recipe b.slot).map = (s.store.slots[b.slot]).map := by
      simp only [State.recipe, modChecker_store, hv]
    simp only [take, State.judgeReading, hrecipe]
    cases (s.store.slots[b.slot]).map[rd.code] with
    | none => rfl
    | checkSlot k notice =>
      dsimp only
      simp only [State.readCheckSlot, combine_eq]
      rfl
    | endMark =>
      dsimp only
      rw [endCheck_of_checking (by simpa using hx)]
      exact congrArg (State.ruling · l) (modChecker_congr (by simp))
  constructor
  · intro code result hbytes u rd
    have hexec : exec (.inspectReading l result) s = .next (u.enterSlot l .inspectSlot [code, result]) :=
      congrArg Host.Outcome.next (stationByte_completes_slot (slot := .inspectSlot) (congrArg (· ++ [result]) hbytes) rfl)
    have hctl : (u.lane l).ctl = (s.lane l).ctl := modStation_ctl ..
    have hqueue : (u.lane l).station.inspectQueue = q := by simp [u, q]
    have hboard : u.board l = s.board l := modStation_board ..
    have hlost (hfull : 4 ≤ q.length) : exec (.inspectReading l result) s = .next (u.loseRecord l .inspectSlot 0) := by
      rw [hexec, enterSlot_inspect_of_full (by rwa [hqueue])]
    have hserved (hroom : q.length < 4) : exec (.inspectReading l result) s =
        .next ((u.modStation l fun st => { st with inspectQueue := q ++ [rd] }).serveInspect l) := by
      rw [hexec, enterSlot_inspect (by rwa [hqueue])]
      exact congrArg (fun v => Host.Outcome.next (State.serveInspect v l)) (modStation_congr (by rw [hqueue]; rfl))
    refine ⟨fun hfull hx => ?lost, fun b hfull hx hb => ?noted, fun hroom hx => ?late, fun hroom hx hready => ?waits,
      fun b hempty hx hready hb => ?taken⟩
    case lost => rw [hlost hfull, loseRecord_inspect, hctl, if_neg hx]
    case noted =>
      rw [hlost hfull, loseRecord_inspect, hctl, if_pos hx, addBoardReason_of_board (by rw [modStation_board, hboard, hb])]
    case late =>
      rw [hserved hroom, State.serveInspect, if_neg (by simpa [hctl] using hx), State.discardReadings,
        modStation_modStation]
      simp only [modStation_station, List.length_append, List.length_singleton, satAdd]
    case waits =>
      rw [hserved hroom, State.serveInspect, if_pos (by simpa [hctl] using hx),
        takeReading_of_not_ready (by simpa [u] using hready)]
    case taken =>
      rw [hserved (by simp [hempty]), State.serveInspect, if_pos (by simpa [hctl] using hx),
        takeReading_of_ready (rest := []) (by simp [hempty]; rfl) (by simpa [hboard] using hb) (by simpa [u] using hready)]
      refine congrArg Host.Outcome.next ?_
      rw [htake u _ b rd _ (by simp [u]) (by simpa [hctl] using hx)]
      · rw [hqueue, hempty]
        rfl
      · rw [modStation_modStation, modStation_of_same (by rw [← hempty, ← hqueue])]
        simp [u]
  · intro t htimer hdue
    have hexec : exec (.paceTimerExpiry l) s = .next (s.paceExpired l) := by
      rw [exec, execPaceTimerExpiry, if_pos (timerDue_of_reached htimer hdue)]
    refine ⟨fun hx => ?idle, fun hx hempty => ?ready, fun b rd rest hx hq hb => ?taken⟩
    case idle => rw [hexec, State.paceExpired, if_neg hx]
    case ready => rw [hexec, State.paceExpired, if_pos hx, takeReading_of_empty (by simpa using hempty)]
    case taken =>
      rw [hexec, State.paceExpired, if_pos hx, takeReading_of_ready (by simpa using hq) (by simpa using hb) (by simp),
        htake (s.modStation l fun st => { st with inspectQueue := rest }) _ b rd _ (by simp) (by simpa using hx)]
      · simp
      · cases l <;> rfl
end

section
/-!
The strobes of the Station Ports: END (O40) and START (O38).
-/

namespace Sys2Proof.Machine

open Sys2Proof

variable {s : State} {l : LaneId} {seg : Segment} {k : Nat}

/-! ### Waiting behind a running segment (R79) -/

/-- R79: while a segment runs in SPRAYING, a START waits. -/
theorem serveStart_of_running (hx : (s.lane l).ctl.state = .spraying) (hr : (s.lane l).path.seq ≠ .closed) :
    s.serveStart l = s := by
  rw [State.serveStart]
  split
  · rfl
  · simp only [hx, if_neg hr]

/-! ### End strobes (R80, R116) -/

/-- R77: an END that completes while the END slot is free is served. -/
theorem enterSlot_end {d : List Byte} (hslot : (s.lane l).station.endSlot = none) :
    s.enterSlot l .endSlot d =
      (s.modStation l fun st => { st with endSlot := some (word16At d 0) }).serveEnd l := by
  rw [State.enterSlot, hslot]
  rfl

/-- R116: an END for the executing segment in OPEN_DELAY cuts it with an open time of 0. -/
theorem serveEnd_of_openDelay (hslot : (s.lane l).station.endSlot = some k) (hx : (s.lane l).ctl.state = .spraying)
    (hexecuting : (s.lane l).path.executing = some k) (hseq : (s.lane l).path.seq = .openDelay)
    (hseg : (s.lane l).path.executingSegment = some seg) :
    s.serveEnd l = ((s.modStation l fun st => { st with endSlot := none }).enterClosing l seg 0).serveStart l := by
  rw [State.serveEnd, hslot]
  dsimp only
  rw [if_pos ⟨hx, hexecuting⟩, hseq, hseg]

/-- R116: an END for the executing segment in OPEN cuts it with the time elapsed. -/
theorem serveEnd_of_opened (hslot : (s.lane l).station.endSlot = some k) (hx : (s.lane l).ctl.state = .spraying)
    (hexecuting : (s.lane l).path.executing = some k) (hseq : (s.lane l).path.seq = .opened)
    (hseg : (s.lane l).path.executingSegment = some seg) :
    s.serveEnd l = ((s.modStation l fun st => { st with endSlot := none }).enterClosing l seg
      (s.clock - (s.lane l).path.openedAt).toNat).serveStart l := by
  rw [State.serveEnd, hslot]
  dsimp only
  rw [if_pos ⟨hx, hexecuting⟩, hseq, hseg]
  rfl

/-- R80: every other END is consumed and changes nothing. -/
theorem serveEnd_of_idle (hslot : (s.lane l).station.endSlot = some k)
    (hidle : (s.lane l).ctl.state ≠ .spraying ∨ (s.lane l).path.executing ≠ some k ∨ (s.lane l).path.seq = .closing ∨
      (s.lane l).path.seq = .closed) :
    s.serveEnd l = s.modStation l fun st => { st with endSlot := none } := by
  rw [State.serveEnd, hslot]
  dsimp only
  split
  · rename_i hrun
    obtain hx | hexecuting | hseq | hseq := hidle
    · exact absurd hrun.1 hx
    · exact absurd hrun.2 hexecuting
    · simp only [hseq]
    · simp only [hseq]
  · rfl

/-- R116: CLOSING runs for the close settle, a START waiting behind it; a settle of 0 completes the segment at once,
and the waiting START is judged. -/
theorem enterClosing_serveStart (t : Nat) (hx : (s.lane l).ctl.state = .spraying) :
    (s.enterClosing l seg t).serveStart l =
      let settle := (s.lane l).ctl.settings.closeSettle seg.valve
      let closing := s.modPath l fun pe =>
        { pe with seq := .closing, openTime := t, phaseTimer := some (s.clock + BitVec.ofNat 32 settle) }
      if settle = 0 then (closing.finishSegment l).serveStart l else closing := by
  rw [State.enterClosing]
  dsimp only
  split
  · rfl
  · rw [serveStart_of_running (by simpa using hx) (by simp)]
    rfl

end Sys2Proof.Machine

open Sys2Proof Machine in
/-- Settles O40: an END is served at once, and the sequencer's phase says what it cuts. -/
theorem Sys2Proof.endStrobeCutsTheOpenPhase : Obligations.EndStrobeCutsTheOpenPhase := by
  intro s l high low hbytes hslot k pe u
  let waiting := u.modStation l fun st => { st with endSlot := some k }
  have hexec : exec (.endStrobe l low) s = .next (waiting.serveEnd l) := by
    have hbyte : s.stationByte l .endSlot low = u.enterSlot l .endSlot [high, low] :=
      stationByte_completes_slot (slot := .endSlot) (congrArg (· ++ [low]) hbytes) rfl
    rw [exec, execEndStrobe, hbyte, enterSlot_end (by simpa [u] using hslot)]
    rfl
  have hfreed : (waiting.modStation l fun st => { st with endSlot := none }) = u := by
    rw [modStation_modStation, modStation_of_same (by simp [u, hslot])]
  have hstate : (waiting.lane l).ctl = (s.lane l).ctl := by simp [waiting, u]
  have hpath : (waiting.lane l).path = pe := by simp [waiting, u, pe]
  have hwaits : (waiting.lane l).station.endSlot = some k := by simp [waiting]
  refine ⟨fun seg hx hexecuting hseg => ?cut, fun hidle => ?idle⟩
  case cut =>
    have hsegment : (waiting.lane l).path.executingSegment = some seg := by
      rw [hpath, PathExec.executingSegment, hexecuting]
      exact hseg
    intro settle closing cut
    have hcut (t : Nat) : (u.enterClosing l seg t).serveStart l = cut t := by
      rw [enterClosing_serveStart t (by simpa [u] using hx)]
      simp only [u, modStation_ctl, modStation_clock, cut, closing, settle]
      cases seg.valve <;> rfl
    refine ⟨fun hseq => ?openDelay, fun hseq => ?opened⟩
    case openDelay =>
      rw [hexec, serveEnd_of_openDelay hwaits (by rwa [hstate]) (by rwa [hpath]) (by rwa [hpath]) hsegment, hfreed, hcut]
    case opened =>
      rw [hexec, serveEnd_of_opened hwaits (by rwa [hstate]) (by rwa [hpath]) (by rwa [hpath]) hsegment, hfreed, hcut,
        hpath]
      simp [waiting, u]
  case idle => rw [hexec, serveEnd_of_idle hwaits (by rwa [hstate, hpath]), hfreed]
end

section
/-!
Start strobes (O38): what the START slot's record does to its lane.
-/

namespace Sys2Proof.Machine

open Sys2Proof

variable {s t u : State} {l : LaneId} {n : Serial} {seg : Segment} {b : BoardRecord} {k : Nat}

/-! ### What a strobe leaves -/

/-- What R114 reads of a record, and where the record is. -/
def BoardRecord.seat (b : BoardRecord) : Location × Fin 8 × FlagSet 12 × Vector Verdict 16 :=
  (b.location, b.slot, b.passAreas, b.verdicts)

/-- The Line Clock, the Recipe Store and the settings of lane `l` are those of `s`, and so is what R114 reads of the
records. -/
structure State.JudgesAs (s t : State) (l : LaneId) : Prop where
  clock : t.clock = s.clock
  store : t.store = s.store
  settings : (t.lane l).ctl.settings = (s.lane l).ctl.settings
  seats : ∀ c ∈ t.records, ∃ b ∈ s.records, c.seat = b.seat

namespace State.JudgesAs

theorem refl (s : State) (l : LaneId) : s.JudgesAs s l := ⟨rfl, rfl, rfl, fun c hc => ⟨c, hc, rfl⟩⟩

/-- A change that leaves the clock, the store, the records and the lane's settings. -/
theorem of_same (h : s.JudgesAs t l) (hc : u.clock = t.clock) (hs : u.store = t.store)
    (hl : (u.lane l).ctl.settings = (t.lane l).ctl.settings) (hr : u.records = t.records) : s.JudgesAs u l :=
  ⟨hc.trans h.clock, hs.trans h.store, hl.trans h.settings, fun c hmem => h.seats c (hr ▸ hmem)⟩

theorem ite {c : Prop} [Decidable c] (h : c → s.JudgesAs t l) (g : ¬c → s.JudgesAs u l) :
    s.JudgesAs (if c then t else u) l := by
  split
  · exact h ‹_›
  · exact g ‹_›

theorem raise {e : EventKind} {x : Option LaneId} {c : Nat} (h : s.JudgesAs t l) : s.JudgesAs (raise e x n c t) l :=
  h.of_same (by simp) (by simp) (by simp) (by simp)

theorem modRecord {f : BoardRecord → BoardRecord} (hf : ∀ b, (f b).seat = b.seat) (h : s.JudgesAs t l) :
    s.JudgesAs (t.modRecord n f) l where
  clock := by simpa using h.clock
  store := by simpa using h.store
  settings := by simpa using h.settings
  seats := fun c hc => by
    obtain ⟨b, hb, rfl⟩ := List.mem_map.1 hc
    obtain ⟨a, ha, hba⟩ := h.seats b hb
    refine ⟨a, ha, ?_⟩
    split
    · exact (hf b).trans hba
    · exact hba

theorem addReason {r : Reason} (h : s.JudgesAs t l) : s.JudgesAs (t.addReason n r) l := .modRecord (fun _ => rfl) h

theorem modPath {f : PathExec → PathExec} (h : s.JudgesAs t l) : s.JudgesAs (t.modPath l f) l :=
  h.of_same (by simp) (by simp) (by simp) (by simp)

theorem countDeviation (h : s.JudgesAs t l) : s.JudgesAs (t.countDeviation l) l := by
  have hcount (f : LaneCtl → LaneCtl) (hf : (f (t.lane l).ctl).settings = (t.lane l).ctl.settings) :
      s.JudgesAs (t.modCtl l f) l := h.of_same (by simp) (by simp) (by simpa using hf) (by simp)
  exact .ite (fun _ => .raise (hcount _ rfl)) fun _ => hcount _ rfl

theorem handOver {p c : Nat} (h : s.JudgesAs t l) : s.JudgesAs (t.handOver l seg p c) l := by
  unfold State.handOver
  split
  · exact h
  · exact .ite (fun _ => .countDeviation (.addReason (.modRecord (fun _ => rfl) h))) fun _ => .modRecord (fun _ => rfl) h

theorem handOverAll {segs : List Segment} (h : s.JudgesAs t l) : s.JudgesAs (t.handOverAll l segs) l := by
  induction segs generalizing t with
  | nil => exact h
  | cons seg rest ih => exact ih h.handOver

theorem raiseQueueEmpty (h : s.JudgesAs t l) : s.JudgesAs (raiseQueueEmpty l t) l :=
  .ite (fun _ => .raise h) fun _ => .raise (h.of_same rfl rfl (by cases l <;> rfl) rfl)

theorem judgeFall {before : Nat} (h : s.JudgesAs t l) : s.JudgesAs (t.judgeFall l before) l :=
  .ite (fun _ => .ite (fun _ => .raiseQueueEmpty (.ite (fun _ => .raise h) fun _ => h))
    fun _ => .ite (fun _ => .raise h) fun _ => h) fun _ => h

theorem enterSpraying (h : s.JudgesAs t l) : s.JudgesAs (t.enterSpraying l n) l := by
  refine .ite (fun _ => ?_) fun _ => h
  have hflag := State.JudgesAs.modRecord (n := n) (f := fun r => { r with stage := .spraying }) (fun _ => rfl) h
  exact hflag.of_same (by simp) (by simp) (by cases l <;> rfl) (by simp)

theorem skipTo (h : s.JudgesAs t l) : s.JudgesAs (t.skipTo l n k) l :=
  .ite (fun _ => .addReason (.modPath h.handOverAll)) fun _ => h

end State.JudgesAs

/-! ### Taking a strobe (R113, R114) -/

/-- R113: a strobe below the cursor, or beyond the n of a COMPLETE path. -/
def PathExec.Stale (pe : PathExec) (k : Nat) : Prop :=
  k < pe.cursor ∨ (pe.state = .complete ∧ pe.last.getD 0 < k)

/-- R113: the state a strobe's own segment is judged in: SPRAYING, the skipped segments MISSED. -/
def State.strobed (s : State) (l : LaneId) (n : Serial) (k : Nat) : State := (s.enterSpraying l n).skipTo l n k

/-- R114: what suppresses a segment. -/
theorem suppressed_iff (classes : List CheckClass) (b : BoardRecord) (seg : Segment) :
    suppressed classes b seg = true ↔ b.passAreas[seg.area] = false ∨
      ∃ t ∈ seg.tags, classes[t.val]? = some .suppress ∧ b.verdicts[t] ≠ .present := by
  simp [suppressed]

theorem takeStrobe_of_stale (hb : s.board l = some b) (hstale : (s.lane l).path.Stale k) :
    s.takeStrobe l k = staleStrobe l k s := by
  rw [State.takeStrobe, hb]
  exact if_pos hstale

/-- R113: the strobe of a segment that is not loaded. -/
theorem takeStrobe_of_missing (hb : s.board l = some b) (hfresh : ¬ (s.lane l).path.Stale k)
    (hseg : (s.lane l).path.segment? k = none) :
    s.takeStrobe l k = (((((s.strobed l b.serial k).modPath l fun pe => { pe with cursor := k + 1 }).addReason b.serial
      .pathUnderrun).judgeFall l (s.lane l).path.unexecuted).afterOutcome l) := by
  rw [State.takeStrobe, hb]
  dsimp only
  rw [if_neg (by exact hfresh), hseg]
  rfl

/-- R113, R114: the strobe of a suppressed segment is DRY. -/
theorem takeStrobe_of_suppressed (hb : s.board l = some b) (hfresh : ¬ (s.lane l).path.Stale k)
    (hseg : (s.lane l).path.segment? k = some seg) (hdry : suppressed (s.recipe b.slot).featuresD b seg = true) :
    s.takeStrobe l k = (((((s.strobed l b.serial k).handOver l seg 0 0).modPath l fun pe =>
      { pe with cursor := k + 1 }).judgeFall l (s.lane l).path.unexecuted).afterOutcome l) := by
  rw [State.takeStrobe, hb]
  dsimp only
  rw [if_neg (by exact hfresh), hseg]
  exact if_pos hdry

/-- R113, R115: the strobe of a loaded segment that is not suppressed starts it. -/
theorem takeStrobe_of_unsuppressed (hb : s.board l = some b) (hfresh : ¬ (s.lane l).path.Stale k)
    (hseg : (s.lane l).path.segment? k = some seg) (hwet : suppressed (s.recipe b.slot).featuresD b seg = false) :
    s.takeStrobe l k =
      ((s.strobed l b.serial k).judgeFall l (s.lane l).path.unexecuted).startSegment l seg := by
  rw [State.takeStrobe, hb]
  dsimp only
  rw [if_neg (by exact hfresh), hseg]
  exact if_neg (by simp [hwet])

/-- R115: the sequencer starts a segment, an on-delay of 0 ending in the same event. -/
theorem startSegment_eq {delay : Nat} (hdelay : (s.lane l).ctl.settings.onDelay seg.valve = delay) :
    s.startSegment l seg =
      let started := s.modLane l fun y => { y with
        meter := { y.meter with segPulses := 0 }
        path := { y.path with
          seq := .openDelay, executing := some seg.number, gapTimer := none, openTime := 0,
          phaseTimer := some (s.clock + BitVec.ofNat 32 delay) } }
      if delay = 0 then started.endOpenDelay l seg else started := by
  subst hdelay
  rw [State.startSegment]
  cases l <;> rfl

/-! ### The START slot (R79) -/

/-- R77: a START that completes while the START slot is free is served. -/
theorem enterSlot_start {d : List Byte} (hslot : (s.lane l).station.startSlot = none) :
    s.enterSlot l .startSlot d =
      (s.modStation l fun st => { st with startSlot := some (word16At d 0) }).serveStart l := by
  rw [State.enterSlot, hslot]
  rfl

/-- R77, R78: a START that completes at a full slot is lost. -/
theorem enterSlot_start_of_full {d : List Byte} (hslot : (s.lane l).station.startSlot.isSome = true) :
    s.enterSlot l .startSlot d = s.loseRecord l .startSlot 0 := if_pos hslot

/-- R79: outside ARMED and SPRAYING a START is stale. -/
theorem serveStart_of_idle (hslot : (s.lane l).station.startSlot = some k) (harmed : (s.lane l).ctl.state ≠ .armed)
    (hspraying : (s.lane l).ctl.state ≠ .spraying) :
    s.serveStart l = staleStrobe l k (s.modStation l fun st => { st with startSlot := none }) := by
  rw [State.serveStart, hslot]
  dsimp only
  split
  · exact absurd ‹_› harmed
  · exact absurd ‹_› hspraying
  · rfl

/-- R79: in ARMED and SPRAYING a START is taken once the sequencer is CLOSED. -/
theorem serveStart_of_active (hslot : (s.lane l).station.startSlot = some k)
    (hx : (s.lane l).ctl.state = .armed ∨ (s.lane l).ctl.state = .spraying) :
    s.serveStart l = if (s.lane l).path.seq = .closed then
      (s.modStation l fun st => { st with startSlot := none }).takeStrobe l k else s := by
  rw [State.serveStart, hslot]
  obtain hx | hx := hx <;> simp only [hx]

end Sys2Proof.Machine

open Sys2Proof Machine in
/-- Settles O38: a START is lost, or served by the lane state and, in ARMED and SPRAYING, judged by the cursor. -/
theorem Sys2Proof.startStrobeIsJudgedByCursor : Obligations.StartStrobeIsJudgedByCursor := by
  intro s l high low hbytes k x pe u run lost stale
  let waiting := u.modStation l fun st => { st with startSlot := some k }
  have hexec : exec (.startStrobe l low) s = .next (u.enterSlot l .startSlot [high, low]) :=
    congrArg Host.Outcome.next (stationByte_completes_slot (slot := .startSlot) (congrArg (· ++ [low]) hbytes) rfl)
  have hctl : (u.lane l).ctl = (s.lane l).ctl := by simp [u]
  have hslot : (u.lane l).station.startSlot = (s.lane l).station.startSlot := by simp [u]
  have hpath : (u.lane l).path = pe := by simp [u, pe]
  have hboard : u.board l = s.board l := modStation_board ..
  have hlost (hfull : (s.lane l).station.startSlot.isSome = true) : run (u.loseRecord l .startSlot 0) := by
    rw [← hslot] at hfull
    exact hexec.trans (by rw [enterSlot_start_of_full hfull])
  have hserved (hfree : (s.lane l).station.startSlot = none) : run (waiting.serveStart l) := by
    rw [← hslot] at hfree
    exact hexec.trans (by rw [enterSlot_start hfree]; rfl)
  have hwaits : (waiting.lane l).station.startSlot = some k := by simp [waiting]
  have hstate : (waiting.lane l).ctl.state = x := by simp [waiting, hctl, x]
  have hseq : (waiting.lane l).path = pe := by simp [waiting, hpath]
  have hfreed (hfree : (s.lane l).station.startSlot = none) :
      (waiting.modStation l fun st => { st with startSlot := none }) = u := by
    rw [modStation_modStation, modStation_of_same (by simp [hfree, u])]
  have hstale : staleStrobe l k u = stale := by
    simp only [staleStrobe, State.boardSerial, hboard, stale]
    cases s.board l <;> rfl
  refine ⟨fun hfull harmed hspraying => ?lost, fun hfree harmed hspraying => ?stale,
    fun b hb hx => ⟨fun hfull => ?noted, fun hfree => ⟨fun hrunning => ?waits, fun hclosed hold => ?old,
      fun hclosed hcursor hlast => ?taken⟩⟩⟩
  case lost =>
    have := hlost hfull
    rwa [loseRecord_start, hctl, if_neg (by tauto)] at this
  case stale =>
    have := hserved hfree
    rwa [serveStart_of_idle hwaits (by rwa [hstate]) (by rwa [hstate]), hfreed hfree, hstale] at this
  case noted =>
    have := hlost hfull
    rwa [loseRecord_start, hctl, if_pos hx, addBoardReason_of_board (b := b) (by rw [modStation_board, hboard, hb])] at this
  case waits =>
    have := hserved hfree
    rwa [serveStart_of_active hwaits (by rwa [hstate]), hseq, if_neg hrunning] at this
  case old =>
    have := hserved hfree
    rwa [serveStart_of_active hwaits (by rwa [hstate]), hseq, if_pos hclosed, hfreed hfree,
      takeStrobe_of_stale (hboard.trans hb) ?_, hstale] at this
    rw [hpath]
    refine hold.imp_right fun ⟨n, hcomplete, hn, hk⟩ => ⟨hcomplete, by simpa [hn] using hk⟩
  case taken =>
    have hrun := hserved hfree
    rw [serveStart_of_active hwaits (by rwa [hstate]), hseq, if_pos hclosed, hfreed hfree] at hrun
    have hfresh : ¬ (u.lane l).path.Stale k := by
      rw [hpath]
      rintro (hk | ⟨hcomplete, hk⟩)
      · omega
      · obtain ⟨n, hn, hle⟩ := hlast hcomplete
        simp only [hn, Option.getD_some] at hk
        omega
    intro spraying missed at_ before suppressed
    have hat : u.strobed l b.serial k = at_ := by
      have hspraying : u.enterSpraying l b.serial = spraying := by
        simp only [State.enterSpraying, hctl]
        rfl
      have hqueue : (spraying.lane l).path = pe := by rw [← hspraying, (enterSpraying_lane ..).1, hpath]
      rw [State.strobed, hspraying, State.skipTo, hqueue]
      simp only [at_, missed, Bool.decide_and]
    have hrecipe : (u.recipe b.slot).featuresD = (s.store.slots[b.slot]).featuresD := by simp [u, State.recipe]
    have hdry (seg : Segment) : Machine.suppressed (u.recipe b.slot).featuresD b seg = true ↔ suppressed seg := by
      rw [hrecipe, suppressed_iff]
    have hb : u.board l = some b := hboard.trans hb
    have hbefore : (u.lane l).path.unexecuted = before := by rw [hpath]; rfl
    split
    · rename_i hseg
      rwa [takeStrobe_of_missing hb hfresh (by rw [hpath]; exact hseg), hat, hbefore] at hrun
    · rename_i seg hseg
      refine ⟨fun hs => ?dry, fun hs => ?wet⟩
      case dry =>
        rwa [takeStrobe_of_suppressed hb hfresh (by rw [hpath]; exact hseg) ((hdry seg).2 hs), hat, hbefore] at hrun
      case wet =>
        have hseg' : (u.lane l).path.segment? k = some seg := by rw [hpath]; exact hseg
        have hjudges : u.JudgesAs (at_.judgeFall l before) l := by
          rw [← hat]
          exact .judgeFall (.skipTo (.enterSpraying (.refl u l)))
        intro delay started
        have hdelay : ((at_.judgeFall l before).lane l).ctl.settings.onDelay seg.valve = delay := by
          rw [hjudges.settings, hctl]
          rfl
        rw [takeStrobe_of_unsuppressed hb hfresh hseg' (by simpa [← hdry] using hs), hat, hbefore, startSegment_eq hdelay,
          hjudges.clock, (segment?_some hseg').2] at hrun
        simpa [u] using hrun
end

section
/-!
The law of R115, operation by operation (O29): what a change of one block does to the segments that run and to the boards
they are sprayed on.
-/

namespace Sys2Proof.Machine

open Sys2Proof

variable {s t u : State} {l m : LaneId} {n : Serial} {b c : BoardRecord} {seg : Segment}

/-- R115: a lane in SPRAYING runs a segment: its sequencer is not CLOSED, and the segment is the executing one. -/
structure Lane.Runs (x : Lane) (seg : Segment) : Prop where
  state : x.ctl.state = .spraying
  seq : x.path.seq ≠ .closed
  segment : x.path.executingSegment = some seg

/-- R114: a segment is suppressed for a board, by its recipe as the store has it. -/
def State.suppresses (s : State) (b : BoardRecord) (seg : Segment) : Bool :=
  suppressed (s.recipe b.slot).featuresD b seg

/-- R115: no lane runs a segment that is suppressed for a board in it. -/
def State.RunsWet (s : State) : Prop :=
  ∀ l seg, (s.lane l).Runs seg → ∀ b ∈ s.records, b.location = .lane l → s.suppresses b seg = false

/-- R114 reads no more than the seat of a record. -/
theorem suppresses_congr (hs : t.store.slots = s.store.slots) (hseat : c.seat = b.seat) :
    t.suppresses c seg = s.suppresses b seg := by
  simp only [BoardRecord.seat, Prod.mk.injEq] at hseat
  obtain ⟨-, hslot, hareas, hverdicts⟩ := hseat
  rw [State.suppresses, State.suppresses, suppressed, suppressed, State.recipe, State.recipe, hs, hslot, hareas,
    hverdicts]

theorem location_of_seat (h : c.seat = b.seat) : c.location = b.location := congrArg Prod.fst h

namespace State.RunsWet

/-- A change after which no more runs, and each board of a running lane is judged as one that was there. -/
theorem change (hs : t.store.slots = s.store.slots) (hl : ∀ l seg, (t.lane l).Runs seg → (s.lane l).Runs seg)
    (hr : ∀ l seg, (t.lane l).Runs seg → ∀ c ∈ t.records, c.location = .lane l → ∃ b ∈ s.records, c.seat = b.seat)
    (h : s.RunsWet) : t.RunsWet := fun l seg hrun c hc hloc => by
  obtain ⟨b, hb, hseat⟩ := hr l seg hrun c hc hloc
  rw [suppresses_congr hs hseat]
  exact h l seg (hl l seg hrun) b hb ((location_of_seat hseat).symm.trans hloc)

/-- Without a record there is nothing to spray on. -/
theorem of_no_records (h : s.records = []) : s.RunsWet := fun _ _ _ b hb => by
  rw [h] at hb
  cases hb

theorem of_same (hs : t.store.slots = s.store.slots) (hl : ∀ l, t.lane l = s.lane l) (hr : t.records = s.records)
    (h : s.RunsWet) : t.RunsWet :=
  h.change hs (fun l _ hrun => by rwa [hl] at hrun) fun _ _ _ c hc _ => ⟨c, hr ▸ hc, rfl⟩

theorem ite {c : Prop} [Decidable c] (h : c → s.RunsWet) (g : ¬c → t.RunsWet) : (if c then s else t).RunsWet := by
  split
  · exact h ‹_›
  · exact g ‹_›

/-! ### Changes of one block -/

theorem modLane {f : Lane → Lane} (hf : ∀ seg, (f (s.lane l)).Runs seg → (s.lane l).Runs seg) (h : s.RunsWet) :
    (s.modLane l f).RunsWet := by
  refine h.change (by simp) (fun m seg hrun => ?_) fun _ _ _ c hc _ => ⟨c, by simpa using hc, rfl⟩
  by_cases hm : m = l
  · subst hm
    exact hf seg (by simpa using hrun)
  · rwa [modLane_lane_ne s l m f hm] at hrun

/-- A lane in which nothing runs afterwards may change as it will. -/
theorem haltLane {f : Lane → Lane} (hf : ∀ seg, ¬ (f (s.lane l)).Runs seg) (h : s.RunsWet) : (s.modLane l f).RunsWet :=
  h.modLane fun seg hrun => absurd hrun (hf seg)

theorem modStation {f : StationPort → StationPort} (h : s.RunsWet) : (s.modStation l f).RunsWet :=
  h.modLane fun _ hrun => { hrun with }

theorem modChecker {f : MaskChecker → MaskChecker} (h : s.RunsWet) : (s.modChecker l f).RunsWet :=
  h.modLane fun _ hrun => { hrun with }

theorem modMeter {f : FlowMeter → FlowMeter} (h : s.RunsWet) : (s.modMeter l f).RunsWet :=
  h.modLane fun _ hrun => { hrun with }

theorem modCtl {f : LaneCtl → LaneCtl} (hf : (f (s.lane l).ctl).state = .spraying → (s.lane l).ctl.state = .spraying)
    (h : s.RunsWet) : (s.modCtl l f).RunsWet := h.modLane fun _ hrun => ⟨hf hrun.state, hrun.seq, hrun.segment⟩

theorem setLaneState {x : LaneState} (hx : x ≠ .spraying) (h : s.RunsWet) : (s.setLaneState l x).RunsWet :=
  h.modCtl fun he => absurd he hx

/-- A path that keeps its executing segment, at a sequencer that is not newly started. -/
theorem modPath {f : PathExec → PathExec}
    (hseq : (s.lane l).path.seq = .closed → (f (s.lane l).path).seq = .closed)
    (hseg : ∀ seg, (f (s.lane l).path).executingSegment = some seg → (s.lane l).path.executingSegment = some seg)
    (h : s.RunsWet) : (s.modPath l f).RunsWet :=
  h.modLane fun _ hrun => ⟨hrun.state, mt hseq hrun.seq, hseg _ hrun.segment⟩

/-- R115: a sequencer that goes to CLOSED. -/
theorem closePath {f : PathExec → PathExec} (hf : (f (s.lane l).path).seq = .closed) (h : s.RunsWet) :
    (s.modPath l f).RunsWet := h.haltLane fun _ hrun => hrun.seq hf

theorem modPort {p : Port} {f : PortState → PortState} (h : s.RunsWet) : (s.modPort p f).RunsWet :=
  h.of_same (by simp) (by simp) (by simp)

theorem setGate {g : Gate} (h : s.RunsWet) : State.RunsWet { s with gate := g } :=
  h.of_same rfl (fun l => by cases l <;> rfl) rfl

theorem setOven {o : Oven} (h : s.RunsWet) : State.RunsWet { s with oven := o } :=
  h.of_same rfl (fun l => by cases l <;> rfl) rfl

theorem setHolds {es : List HoldEntry} (h : s.RunsWet) : State.RunsWet { s with holds := es } :=
  h.of_same rfl (fun l => by cases l <;> rfl) rfl

theorem setSettings {x : LineSettings} (h : s.RunsWet) : State.RunsWet { s with settings := x } :=
  h.of_same rfl (fun l => by cases l <;> rfl) rfl

theorem setFreeCount {k : Nat} (h : s.RunsWet) : State.RunsWet { s with freeCount := k } :=
  h.of_same rfl (fun l => by cases l <;> rfl) rfl

theorem raise {e : EventKind} {x : Option LaneId} {k : Nat} (h : s.RunsWet) : (raise e x n k s).RunsWet :=
  h.of_same (by simp) (by simp) (by simp)

/-! ### Changes of the records -/

/-- A record that keeps its seat. -/
theorem modRecord {f : BoardRecord → BoardRecord} (hf : ∀ b, (f b).seat = b.seat) (h : s.RunsWet) :
    (s.modRecord n f).RunsWet := by
  refine h.change (by simp) (fun l seg hrun => by simpa using hrun) fun _ _ _ c hc _ => ?_
  obtain ⟨b, hb, rfl⟩ := List.mem_map.1 hc
  refine ⟨b, hb, ?_⟩
  split
  · exact hf b
  · rfl

theorem addReason {r : Reason} (h : s.RunsWet) : (s.addReason n r).RunsWet := .modRecord (fun _ => rfl) h

/-- A record that changes where nothing runs. -/
theorem moveRecord {f : BoardRecord → BoardRecord}
    (hf : ∀ b ∈ s.records, b.serial = n → ∀ l seg, (f b).location = .lane l → ¬ (s.lane l).Runs seg) (h : s.RunsWet) :
    (s.modRecord n f).RunsWet := by
  refine h.change (by simp) (fun l seg hrun => by simpa using hrun) fun l seg hrun c hc hloc => ?_
  obtain ⟨b, hb, rfl⟩ := List.mem_map.1 hc
  split at hloc
  · rename_i hn
    exact absurd (by simpa using hrun) (hf b hb hn l seg hloc)
  · rename_i hn
    exact ⟨b, hb, by rw [if_neg hn]⟩

/-- A record that goes to a place that is no lane. -/
theorem sendAway {f : BoardRecord → BoardRecord} (hf : ∀ b l, (f b).location ≠ .lane l) (h : s.RunsWet) :
    (s.modRecord n f).RunsWet := h.moveRecord fun b _ _ l _ hloc => absurd hloc (hf b l)

/-- A record replaced by one with the seat of its own. -/
theorem setRecord (hb : s.record? n = some b) (hseat : c.seat = b.seat) (h : s.RunsWet) :
    (s.modRecord n fun _ => c).RunsWet := by
  refine h.change (by simp) (fun l seg hrun => by simpa using hrun) fun _ _ _ d hd _ => ?_
  obtain ⟨a, ha, rfl⟩ := List.mem_map.1 hd
  split
  · exact ⟨b, record?_mem s n b hb, hseat⟩
  · exact ⟨a, ha, rfl⟩

theorem removeRecord (h : s.RunsWet) : (s.removeRecord n).RunsWet :=
  h.change (by simp) (fun l seg hrun => by simpa using hrun) fun _ _ _ c hc _ => ⟨c, (List.mem_filter.1 hc).1, rfl⟩

theorem removeHold (h : s.RunsWet) : (s.removeHold n).RunsWet := .setHolds h

theorem joinQueue {e : QueueEntry} (h : s.RunsWet) : (s.joinQueue l e).RunsWet := .modCtl id h

theorem leaveQueue (h : s.RunsWet) : (s.leaveQueue l n).RunsWet := .modCtl id h

/-! ### Holds (R168 to R172) -/

theorem grantHold {loc : HoldLocation} (h : s.RunsWet) : (s.grantHold b loc).RunsWet :=
  .raise (.sendAway (fun _ _ => nofun) (.setHolds h))

theorem overflow {k : Nat} (h : s.RunsWet) : (s.overflow b k).RunsWet := .raise (.removeRecord h)

theorem ovenHold {loc : HoldLocation} (h : s.RunsWet) : (s.ovenHold b loc).RunsWet :=
  .ite (fun _ => .grantHold h) fun _ => .overflow h

theorem letGo (h : s.RunsWet) : (s.letGo l).RunsWet := by
  unfold State.letGo
  exact .modPath id (fun _ => id) (.setGate h)

theorem enterEjecting {x : Option Serial} (h : s.RunsWet) : (s.enterEjecting l x).RunsWet := .modCtl nofun h

/-- A lane that leaves SPRAYING may take a board in the same event. -/
theorem setLaneState_moveRecord {f : BoardRecord → BoardRecord} {x : LaneState} (hx : x ≠ .spraying)
    (hf : ∀ b, (f b).location = .lane l) (h : s.RunsWet) : ((s.modRecord n f).setLaneState l x).RunsWet := by
  have hcomm : (s.modRecord n f).setLaneState l x = (s.setLaneState l x).modRecord n f := by cases l <;> rfl
  rw [hcomm]
  refine .moveRecord (fun b _ _ m seg hloc hrun => hx ?_) (h.setLaneState hx)
  rw [hf, Location.lane.injEq] at hloc
  subst hloc
  simpa using hrun.state

theorem laneHold (h : s.RunsWet) : (s.laneHold l n).RunsWet := by
  rcases laneHold_cases s l n with ⟨_, he⟩ | ⟨b, _, _, he⟩ | ⟨b, _, _, he⟩
  · rw [he]
    exact h
  · rw [he]
    exact .enterEjecting (.grantHold (.letGo h))
  · rw [he]
    exact .raise (.setLaneState_moveRecord nofun (fun _ => rfl) (.letGo h))

theorem retryLane (h : s.RunsWet) : (s.retryLane l).RunsWet := by
  rcases retryLane_cases s l with he | ⟨b, _, _, _, he⟩
  · rw [he]
    exact h
  · rw [he]
    exact .enterEjecting (.grantHold h)

theorem retryBlocked (h : s.RunsWet) : s.retryBlocked.RunsWet := .retryLane (.retryLane h)

/-! ### The gate and the transfer (R140 to R150) -/

theorem grantTo {src : Source} (h : s.RunsWet) : (s.grantTo src).RunsWet := by
  unfold State.grantTo
  cases src with
  | lane l =>
    cases he : s.gate.exit l with
    | none =>
      simp only [he]
      exact .setGate h
    | some w =>
      simp only [he]
      exact .setGate (.setLaneState nofun (.modRecord (fun _ => rfl) (.setGate h)))
  | returnStation =>
    cases s.gate.station with
    | none => exact .setGate h
    | some w => exact .setGate (.modRecord (fun _ => rfl) (.setGate h))

theorem reevaluate (h : s.RunsWet) : s.reevaluate.RunsWet := by
  rcases reevaluate_cases s with he | ⟨c, _, _, he⟩
  · rw [he]
    exact h
  · rw [he]
    exact .grantTo h

theorem reevaluateStation (h : s.RunsWet) : s.reevaluateStation.RunsWet := .ite (fun _ => .reevaluate h) fun _ => h

theorem reevaluateExit (h : s.RunsWet) : (s.reevaluateExit l).RunsWet := .ite (fun _ => .reevaluate h) fun _ => h

theorem presenceChange {level : Bool} (h : s.RunsWet) : (s.presenceChange level).RunsWet :=
  .ite (fun _ => .reevaluateStation (.setGate h)) fun _ => .setGate h

theorem flashReady {src : Source} {w : Waiting} (h : s.RunsWet) : (s.flashReady src w).RunsWet :=
  .ite (fun _ => .setGate h) fun _ => .reevaluate (.setGate h)

theorem emptyStation (h : s.RunsWet) : s.emptyStation.RunsWet := .setGate h

theorem endGrant (h : s.RunsWet) : s.endGrant.RunsWet := .setGate h

theorem stationFails {r : Reason} (h : s.RunsWet) : (s.stationFails n r).RunsWet := by
  unfold State.stationFails
  split
  · exact .emptyStation h
  · exact .emptyStation (.ovenHold (.addReason h))

theorem enterOven (h : s.RunsWet) : (s.enterOven n).RunsWet := .sendAway (fun _ _ => nofun) (.setOven h)

/-! ### A lane's states (R60 to R66, R87) -/

theorem startCheck (h : s.RunsWet) : (s.startCheck l b).RunsWet :=
  .modChecker (.setLaneState_moveRecord nofun (fun _ => rfl) h)

theorem takeArrived (h : s.RunsWet) : (s.takeArrived l n).RunsWet := by
  rcases takeArrived_cases s l n with ⟨_, he⟩ | ⟨_, ⟨_, he⟩ | ⟨b, _, _, he⟩ | ⟨b, _, _, he⟩⟩
  · rw [he]
    exact .enterEjecting (.raise h)
  · rw [he]
    exact h
  · rw [he]
    exact .startCheck (.leaveQueue h)
  · rw [he]
    exact .laneHold (.addReason (.leaveQueue h))

theorem serveArrived (h : s.RunsWet) : (s.serveArrived l).RunsWet := by
  unfold State.serveArrived
  split
  · dsimp only
    split
    · exact .takeArrived (.modStation h)
    · exact .raise (.modStation h)
    · exact h
  · exact h

theorem enterIdle (h : s.RunsWet) : (s.enterIdle l).RunsWet := by
  refine .serveArrived (.modCtl (fun hx => ?_) h)
  dsimp only at hx
  split at hx <;> cases hx

theorem freeSource {src : Source} (h : s.RunsWet) : (s.freeSource src).RunsWet := by
  cases src with
  | lane l => exact .enterIdle h
  | returnStation => exact .emptyStation h

theorem transferFails {src : Source} (h : s.RunsWet) : (s.transferFails src).RunsWet := by
  unfold State.transferFails
  split
  · exact .endGrant h
  · cases src with
    | lane l => exact .laneHold (.addReason (.endGrant h))
    | returnStation => exact .stationFails (.endGrant h)

/-! ### DISPOSE and escalation (R173 to R178) -/

theorem disposeOut {k : EventKind} (h : s.RunsWet) : (s.disposeOut k b).RunsWet :=
  .retryBlocked (.raise (.removeRecord (.removeHold h)))

theorem disposeRespray {areas : FlagSet 12} (h : s.RunsWet) : (s.disposeRespray b l areas).RunsWet :=
  .retryBlocked (.joinQueue (.sendAway (fun _ _ => nofun) (.removeHold h)))

theorem disposeRecure (h : s.RunsWet) : (s.disposeRecure b).RunsWet :=
  .retryBlocked (.reevaluateStation (.setGate (.sendAway (fun _ _ => nofun) (.removeHold h))))

theorem escalate {e : HoldEntry} (h : s.RunsWet) : (s.escalate n e l).RunsWet := .raise (.addReason (.setHolds h))

end State.RunsWet
end Sys2Proof.Machine
end

section
/-!
The law of R115, continued: the oven, metering, the sequencer that starts and ends segments, the check, the Station Ports
and the lane commands (O29).
-/

namespace Sys2Proof.Machine

open Sys2Proof

variable {s t u : State} {l m : LaneId} {n : Serial} {b c : BoardRecord} {seg : Segment} {p : LaneId → Prop}

/-! ### Judgements keep the seat of a record -/

theorem doseBoard_seat (x : Cure) (temp : Option Int) (b : BoardRecord) : (doseBoard x temp b).seat = b.seat := by
  unfold doseBoard
  split
  · rfl
  · dsimp only
    split <;> rfl

theorem judgeDose_seat (x : Cure) (b : BoardRecord) : (judgeDose x b).seat = b.seat := by
  unfold judgeDose
  dsimp only
  split <;> split <;> rfl

theorem judgeFilm_seat (specs : List AreaSpec) (b : BoardRecord) : (judgeFilm specs b).seat = b.seat := by
  unfold judgeFilm
  dsimp only
  split <;> split <;> rfl

theorem dripOn_seat (limit : Nat) (b : BoardRecord) : (dripOn limit b).seat = b.seat := by
  unfold dripOn
  dsimp only
  split <;> rfl

/-- The lane's board is the one record there. -/
theorem State.PlacedBut.single (h : s.PlacedBut p) (hc : c ∈ s.records) (hloc : c.location = .lane l) :
    s.board l = some c := h.board_eq ((record?_eq_some_iff h.distinct).2 ⟨hc, rfl⟩) hloc

/-- Without a loaded segment there is none to run. -/
theorem executingSegment_of_empty {pe : PathExec} (h : pe.queue = []) : pe.executingSegment = none := by
  cases he : pe.executing <;> simp [PathExec.executingSegment, PathExec.segment?, he, h]

namespace State.RunsWet

/-! ### The oven (R154 to R164) -/

theorem makeStale {z : Fin 6} (h : s.RunsWet) : (s.makeStale z).RunsWet := .raise (.setOven h)

theorem judgeZones {zs : List (Fin 6)} (h : s.RunsWet) : (s.judgeZones zs).RunsWet := by
  induction zs generalizing s with
  | nil => exact h
  | cons z rest ih => exact ih (.ite (fun _ => .makeStale h) fun _ => h)

theorem judgeSensor {d : List Byte} (h : s.RunsWet) : (s.judgeSensor d).RunsWet := by
  unfold State.judgeSensor
  split
  · exact h
  · exact .ite (fun _ => .setOven h) fun _ => h

theorem sensorWaiting (h : s.RunsWet) : s.sensorWaiting.RunsWet := .setOven h

theorem sensorByte {x : Byte} {stop : Bool} (h : s.RunsWet) : (s.sensorByte x stop).RunsWet :=
  .ite (fun _ => .sensorWaiting h) fun _ => .ite (fun _ => h) fun _ =>
    .ite (fun _ => .setOven h) fun _ => .judgeSensor (.sensorWaiting h)

theorem doseAll {es : List OvenEntry} (h : s.RunsWet) : (s.doseAll es).RunsWet := by
  induction es generalizing s with
  | nil => exact h
  | cons e rest ih => exact ih (.modRecord (fun _ => doseBoard_seat ..) h)

theorem judgeExit (hb : s.record? b.serial = some b) (h : s.RunsWet) : (s.judgeExit b).RunsWet :=
  .ite (fun _ => .ovenHold (.setRecord hb (judgeDose_seat ..) h)) fun _ => .raise (.removeRecord h)

theorem popHead {e : OvenEntry} {rest : List OvenEntry} (h : s.RunsWet) : (s.popHead e rest).RunsWet := by
  unfold State.popHead
  dsimp only
  split
  · exact .setOven h
  · rename_i b hb
    rw [← record?_serial _ _ b hb] at hb
    exact .judgeExit hb (.setOven h)

/-! ### Metering (R69, R124 to R136) -/

theorem countDeviation (h : s.RunsWet) : (s.countDeviation l).RunsWet :=
  .ite (fun _ => .raise (.modCtl id h)) fun _ => .modCtl id h

theorem handOver {k x : Nat} (h : s.RunsWet) : (s.handOver l seg k x).RunsWet := by
  unfold State.handOver
  split
  · exact h
  · exact .ite (fun _ => .countDeviation (.addReason (.modRecord (fun _ => rfl) h))) fun _ => .modRecord (fun _ => rfl) h

theorem handOverAll {segs : List Segment} (h : s.RunsWet) : (s.handOverAll l segs).RunsWet := by
  induction segs generalizing s with
  | nil => exact h
  | cons seg rest ih => exact ih h.handOver

theorem enterExitWait (h : s.RunsWet) : (s.enterExitWait l b).RunsWet :=
  .setGate (.setLaneState nofun (.modRecord (fun _ => rfl) h))

theorem judgePass (h : s.RunsWet) : (s.judgePass l n).RunsWet := by
  unfold State.judgePass
  split
  · exact h
  · rename_i b hb
    have hjudged := h.setRecord hb (judgeFilm_seat (s.recipe b.slot).areasD b)
    exact .ite (fun _ => .laneHold hjudged) fun _ => .enterExitWait hjudged

theorem boardDrip (h : s.RunsWet) : (s.boardDrip l).RunsWet := by
  unfold State.boardDrip
  split
  · exact h
  · exact .modRecord (fun _ => dripOn_seat ..) h

theorem flowPulse (h : s.RunsWet) : (s.flowPulse l).RunsWet := by
  unfold State.flowPulse
  split
  · exact .modMeter h
  · exact .modMeter h
  · exact .boardDrip h
  · exact .boardDrip h
  · exact .boardDrip h
  · exact .boardDrip h
  · exact .modMeter h

/-! ### The end of a spray (R110, R111, R118, R119) -/

theorem raiseQueueEmpty (h : s.RunsWet) : (raiseQueueEmpty l s).RunsWet :=
  .ite (fun _ => .raise h) fun _ => .raise (.setFreeCount h)

theorem judgeFall {before : Nat} (h : s.RunsWet) : (s.judgeFall l before).RunsWet :=
  .ite (fun _ => .ite (fun _ => .raiseQueueEmpty (.ite (fun _ => .raise h) fun _ => h))
    fun _ => .ite (fun _ => .raise h) fun _ => h) fun _ => h

/-- A path that lets its segments go. -/
theorem emptyQueue {f : PathExec → PathExec} (hf : (f (s.lane l).path).queue = [])
    (hseq : (s.lane l).path.seq = .closed → (f (s.lane l).path).seq = .closed) (h : s.RunsWet) : (s.modPath l f).RunsWet :=
  h.modPath hseq fun _ hseg => by
    rw [executingSegment_of_empty hf] at hseg
    cases hseg

theorem emptiedPath (h : s.RunsWet) : (s.modPath l PathExec.emptied).RunsWet :=
  h.emptyQueue rfl id

/-- R119: a kept path keeps its queue, and any other is emptied. -/
theorem settledPath (h : s.RunsWet) : (s.modPath l PathExec.settled).RunsWet := by
  refine .modPath (fun hc => ?_) (fun seg hseg => ?_) h
  · unfold PathExec.settled
    split <;> exact hc
  · unfold PathExec.settled at hseg
    split at hseg
    · exact hseg
    · rw [executingSegment_of_empty rfl] at hseg
      cases hseg

theorem sprayEnd (h : s.RunsWet) : (s.sprayEnd l).RunsWet := by
  unfold State.sprayEnd
  split
  · exact h
  · exact .reevaluateExit (.settledPath (.judgePass (.modRecord (fun _ => rfl) (.closePath rfl h))))

theorem startGap (h : s.RunsWet) : (s.startGap l).RunsWet := by
  unfold State.startGap
  exact .modPath id (fun _ => id) h

theorem afterOutcome (h : s.RunsWet) : (s.afterOutcome l).RunsWet := .ite (fun _ => .sprayEnd h) fun _ => .startGap h

/-! ### The sequencer (R115 to R117) -/

theorem finishSegment (h : s.RunsWet) : (s.finishSegment l).RunsWet := by
  unfold State.finishSegment
  refine .afterOutcome (.judgeFall (.closePath rfl ?_))
  split
  · exact .handOver h
  · exact h

/-- R115: a running sequencer that goes on to its next phase. -/
theorem nextPhase {f : PathExec → PathExec} (hr : (s.lane l).path.seq ≠ .closed)
    (hf : (f (s.lane l).path).executingSegment = (s.lane l).path.executingSegment) (h : s.RunsWet) :
    (s.modPath l f).RunsWet := .modPath (fun hc => absurd hc hr) (fun _ => by rw [hf]; exact id) h

theorem enterClosing {k : Nat} (hr : (s.lane l).path.seq ≠ .closed) (h : s.RunsWet) :
    (s.enterClosing l seg k).RunsWet :=
  .ite (fun _ => .finishSegment (.nextPhase hr rfl h)) fun _ => .nextPhase hr rfl h

theorem coatBoard (h : s.RunsWet) : (s.coatBoard l).RunsWet := by
  unfold State.coatBoard
  split
  · exact h
  · exact .modRecord (fun _ => rfl) h

theorem endOpenDelay (hr : (s.lane l).path.seq ≠ .closed) (h : s.RunsWet) : (s.endOpenDelay l seg).RunsWet :=
  .ite (fun _ => .finishSegment (.modPath id (fun _ => id) h)) fun _ => .coatBoard (.nextPhase hr rfl h)

/-- R114, R115: a segment that is suppressed for no board in the lane may be started. -/
theorem startSegment (hloaded : (s.lane l).path.segment? seg.number = some seg)
    (hwet : ∀ b ∈ s.records, b.location = .lane l → s.suppresses b seg = false) (h : s.RunsWet) :
    (s.startSegment l seg).RunsWet := by
  have hstarted (x : Option Time) : ((s.modMeter l fun m => { m with segPulses := 0 }).modPath l fun pe => { pe with
      seq := .openDelay, executing := some seg.number, phaseTimer := x, gapTimer := none, openTime := 0 }).RunsWet := by
    intro m seg' hrun b hb hloc
    have hsame : State.suppresses ((s.modMeter l fun m => { m with segPulses := 0 }).modPath l fun pe => { pe with
        seq := .openDelay, executing := some seg.number, phaseTimer := x, gapTimer := none, openTime := 0 }) b seg' =
        s.suppresses b seg' := suppresses_congr (by simp) rfl
    rw [hsame]
    simp only [modPath_records, modMeter_records] at hb
    by_cases hm : m = l
    · subst hm
      obtain ⟨-, -, hseg⟩ := hrun
      have hseg' : (s.lane m).path.segment? seg.number = some seg' := by
        simpa [PathExec.executingSegment, PathExec.segment?] using hseg
      obtain rfl : seg = seg' := Option.some.inj (hloaded.symm.trans hseg')
      exact hwet b hb hloc
    · rw [modPath_lane_ne _ _ _ _ hm, modMeter_lane_ne _ _ _ _ hm] at hrun
      exact h m seg' hrun b hb hloc
  exact .ite (fun _ => .endOpenDelay (by simp) (hstarted _)) fun _ => hstarted _

/-! ### Strobes (R79, R80, R113, R114) -/

theorem enterSpraying (hc : (s.lane l).path.seq = .closed) (h : s.RunsWet) : (s.enterSpraying l n).RunsWet := by
  refine .ite (fun _ => .haltLane (fun seg hrun => hrun.seq ?_) (.modRecord (fun _ => rfl) h)) fun _ => h
  simpa using hc

theorem skipTo {k : Nat} (h : s.RunsWet) : (s.skipTo l n k).RunsWet :=
  .ite (fun _ => .addReason (.modPath id (fun _ => id) (.handOverAll h))) fun _ => h

theorem strobed {k : Nat} (hc : (s.lane l).path.seq = .closed) (h : s.RunsWet) : (s.strobed l n k).RunsWet :=
  .skipTo (.enterSpraying hc h)

/-- R113, R114: a strobe starts no segment that is suppressed for the lane's board, the one record there. -/
theorem takeStrobe {k : Nat} (hone : ∀ b ∈ s.records, b.location = .lane l → s.board l = some b)
    (hc : (s.lane l).path.seq = .closed) (h : s.RunsWet) : (s.takeStrobe l k).RunsWet := by
  cases hb : s.board l with
  | none =>
    rw [State.takeStrobe, hb]
    exact h
  | some b =>
    have hat := h.strobed (n := b.serial) (k := k) hc
    by_cases hstale : (s.lane l).path.Stale k
    · rw [takeStrobe_of_stale hb hstale]
      exact .raise h
    cases hseg : (s.lane l).path.segment? k with
    | none =>
      rw [takeStrobe_of_missing hb hstale hseg]
      exact .afterOutcome (.judgeFall (.addReason (.modPath id (fun _ => id) hat)))
    | some seg =>
      cases hdry : suppressed (s.recipe b.slot).featuresD b seg with
      | true =>
        rw [takeStrobe_of_suppressed hb hstale hseg hdry]
        exact .afterOutcome (.judgeFall (.modPath id (fun _ => id) hat.handOver))
      | false =>
        rw [takeStrobe_of_unsuppressed hb hstale hseg hdry]
        have hjudges : s.JudgesAs ((s.strobed l b.serial k).judgeFall l (s.lane l).path.unexecuted) l :=
          .judgeFall (.skipTo (.enterSpraying (.refl s l)))
        refine .startSegment ?_ (fun c hc hloc => ?_) hat.judgeFall
        · obtain ⟨hpath, -, -⟩ := skipTo_lane (s.enterSpraying l b.serial) l b.serial k
          rw [State.RunsAs.judgeFall.path, State.strobed, hpath, (enterSpraying_lane s l b.serial).1,
            (segment?_some hseg).2]
          exact hseg
        · obtain ⟨a, ha, hseat⟩ := hjudges.seats c hc
          obtain rfl : b = a :=
            Option.some.inj (hb.symm.trans (hone a ha ((location_of_seat hseat).symm.trans hloc)))
          rw [suppresses_congr (congrArg _ hjudges.store) hseat]
          exact hdry

theorem serveStart (hone : ∀ b ∈ s.records, b.location = .lane l → s.board l = some b) (h : s.RunsWet) :
    (s.serveStart l).RunsWet := by
  unfold State.serveStart
  split
  · exact h
  · have htaken (k : Nat) (hc : (s.lane l).path.seq = .closed) :
        ((s.modStation l fun st => { st with startSlot := none }).takeStrobe l k).RunsWet :=
      .takeStrobe (by simpa using hone) (by simpa using hc) (.modStation h)
    dsimp only
    split
    · exact .ite (fun hc => htaken _ hc) fun _ => h
    · exact .ite (fun hc => htaken _ hc) fun _ => h
    · exact .raise (.modStation h)

/-- R80, R116: an END that comes to a lane whose END slot is empty. -/
theorem serveEnd {k : Nat} (hp : s.PlacedBut fun _ => False) (h : s.RunsWet) :
    ((s.modStation l fun st => { st with endSlot := some k }).serveEnd l).RunsWet := by
  have hfreed : ((s.modStation l fun st => { st with endSlot := some k }).modStation l fun st =>
      { st with endSlot := none }) = s := by
    rw [modStation_modStation, modStation_of_same (by rw [← (hp.lanes l).ends])]
  have hcut (hn : (s.lane l).path.seq ≠ .closed) (seg : Segment) (x : Nat) :
      ((s.enterClosing l seg x).serveStart l).RunsWet :=
    .serveStart (fun _ hb hloc => ((hp.weaken fun _ => False.elim).enterClosing hn (.inl rfl)).single hb hloc)
      (h.enterClosing hn)
  unfold State.serveEnd
  simp only [modStation_station, hfreed, modStation_path, modStation_ctl]
  refine .ite (fun _ => ?_) fun _ => h
  split
  · exact hcut (by simp [*]) _ _
  · exact hcut (by simp [*]) _ _
  · exact h

theorem gapExpired (h : s.RunsWet) : (s.gapExpired l).RunsWet := by
  have hstopped : (s.modPath l fun pe => { pe with gapTimer := none }).RunsWet := .modPath id (fun _ => id) h
  unfold State.gapExpired
  dsimp only
  split
  · exact .sprayEnd (.addReason (.modPath id (fun _ => id) hstopped.handOverAll))
  · exact hstopped

/-! ### The Mask Checker (R88 to R95, R112) -/

theorem pathCheck (h : s.RunsWet) : (s.pathCheck l b).RunsWet :=
  .ite (fun _ => .laneHold (.addReason h)) fun _ => .closePath rfl (.setLaneState nofun (.modRecord (fun _ => rfl) h))

theorem ruling (h : s.RunsWet) : (s.ruling l).RunsWet := by
  unfold State.ruling
  split
  · exact h
  · exact .ite (fun _ => .laneHold (.modRecord (fun _ => rfl) h)) fun _ => .pathCheck h

theorem discardReadings (h : s.RunsWet) : (s.discardReadings l).RunsWet := by
  unfold State.discardReadings
  exact .modChecker (.modStation h)

theorem endCheck (h : s.RunsWet) : (s.endCheck l).RunsWet :=
  .ite (fun _ => .ruling (.modChecker (.discardReadings h))) fun _ => .modChecker (.discardReadings h)

/-- R90: the verdicts that change are those of a board in CHECKING, where nothing runs. -/
theorem readCheckSlot {rd : Reading} {k : Fin 16} {notice : Bool} (hd : (s.records.map (·.serial)).Nodup)
    (hb : s.board l = some b) (hx : (s.lane l).ctl.state = .checking) (h : s.RunsWet) :
    (s.readCheckSlot l b rd k notice).RunsWet := by
  have hwritten : (s.modRecord b.serial fun r =>
      { r with verdicts := r.verdicts.set k (combine r.verdicts[k] rd.result) }).RunsWet := by
    refine h.moveRecord fun c hc hn m seg hloc hrun => ?_
    obtain rfl : c = b := List.inj_on_of_nodup_map hd hc (board_mem s l b hb) hn
    have hm : m = l := Location.lane.inj (hloc.symm.trans (board_location s l c hb))
    subst hm
    exact absurd (hx.symm.trans hrun.state) nofun
  exact .ite (fun _ => .raise hwritten) fun _ => hwritten

theorem takeReading (hd : (s.records.map (·.serial)).Nodup) (hx : (s.lane l).ctl.state = .checking) (h : s.RunsWet) :
    (s.takeReading l).RunsWet := by
  unfold State.takeReading
  split
  · rename_i rd rest b hq hb
    refine .ite (fun _ => ?_) fun _ => h
    have htaken : ((s.modStation l fun st => { st with inspectQueue := rest }).modChecker l fun m =>
        { m with ready := false, paceTimer := some (after s.clock 1) }).RunsWet := .modChecker (.modStation h)
    dsimp only
    split
    · exact .endCheck htaken
    · exact .modChecker htaken
    · exact .readCheckSlot (by simpa using hd) (by simpa using hb) (by simpa using hx) htaken
  · exact h

theorem serveInspect (hd : (s.records.map (·.serial)).Nodup) (h : s.RunsWet) : (s.serveInspect l).RunsWet :=
  .ite (fun hx => .takeReading hd hx h) fun _ => .discardReadings h

theorem paceExpired (hd : (s.records.map (·.serial)).Nodup) (h : s.RunsWet) : (s.paceExpired l).RunsWet :=
  .ite (fun hx => .takeReading (by simpa using hd) (by simpa using hx) (.modChecker h)) fun _ => .modChecker h

/-! ### The Station Ports (R75 to R82) -/

theorem addBoardReason {r : Reason} (h : s.RunsWet) : (s.addBoardReason l r).RunsWet := by
  unfold State.addBoardReason
  split
  · exact h
  · exact .addReason h

theorem loseRecord {slot : StationSlot} (h : s.RunsWet) : (s.loseRecord l slot n).RunsWet := by
  cases slot with
  | startSlot => exact .ite (fun _ => .addBoardReason (.modStation h)) fun _ => .modStation h
  | endSlot => exact .modStation (f := fun st => st.countLoss .endSlot) h
  | inspectSlot => exact .ite (fun _ => .addBoardReason (.modStation h)) fun _ => .modStation h
  | boardSlot => exact .raise (.modStation h)

theorem serveBoard (h : s.RunsWet) : (s.serveBoard l).RunsWet := by
  unfold State.serveBoard
  split
  · exact .ite (fun _ => .enterIdle (.modCtl id (.modStation h))) fun _ => .modStation h
  · exact .serveArrived h
  · exact h

theorem enterSlot {slot : StationSlot} {d : List Byte} (hp : s.PlacedBut fun _ => False) (h : s.RunsWet) :
    (s.enterSlot l slot d).RunsWet := by
  cases slot with
  | startSlot =>
    exact .ite (fun _ => .loseRecord h) fun _ =>
      .serveStart (by simpa using fun b => hp.single (c := b) (l := l)) (.modStation h)
  | endSlot => exact .ite (fun _ => .loseRecord h) fun _ => .serveEnd hp h
  | inspectSlot =>
    exact .ite (fun _ => .loseRecord h) fun _ => .serveInspect (by simpa using hp.distinct) (.modStation h)
  | boardSlot => exact .ite (fun _ => .loseRecord h) fun _ => .serveBoard (.modStation h)

theorem stationByte {slot : StationSlot} {x : Byte} (hp : s.PlacedBut fun _ => False) (h : s.RunsWet) :
    (s.stationByte l slot x).RunsWet :=
  .ite (fun _ => .enterSlot (.setAssembler hp) (.modStation h)) fun _ => .modStation h

/-! ### Lane commands (R59, R60, R66, R68, R71) -/

theorem disableLane (h : s.RunsWet) : (s.disableLane l).RunsWet := by
  unfold State.disableLane
  split
  · exact h
  · exact .serveArrived (.modCtl nofun h)
  · exact .modCtl id h

theorem clearLane (h : s.RunsWet) : (s.clearLane l).RunsWet :=
  .haltLane (fun _ hrun => nomatch hrun.state) (.setGate h)

theorem abortBoard (h : s.RunsWet) : (s.abortBoard l b).RunsWet :=
  .ite (fun _ => .grantHold (.addReason h)) fun _ => .overflow h

theorem withdrawLane (h : s.RunsWet) : (s.withdrawLane l).RunsWet :=
  .ite (fun _ => .endGrant (.clearLane h)) fun _ => .clearLane h

theorem resetLane (h : s.RunsWet) : (s.resetLane l).RunsWet := by
  have haborted : (match s.board l with
      | none => s.withdrawLane l
      | some b => (s.withdrawLane l).abortBoard l b).RunsWet := by
    split
    · exact .withdrawLane h
    · exact .abortBoard (.withdrawLane h)
  rw [resetLane_eq]
  exact .ite (fun _ => haborted.reevaluate) fun _ => haborted

theorem configureLane {x : LaneSettings} (h : s.RunsWet) : (s.configureLane l x).RunsWet :=
  .ite (fun _ => .raise (.modCtl id h)) fun _ => .modCtl id h

theorem ejectExpired (h : s.RunsWet) : (s.ejectExpired l).RunsWet :=
  .ite (fun _ => .raise (.setLaneState nofun (.modCtl id h))) fun _ => .modCtl id h

end State.RunsWet
end Sys2Proof.Machine
end

section
/-!
The law of R115 over commands, rows and steps, and what the output lines follow (O29).
-/

namespace Sys2Proof.Machine

open Sys2Proof

variable {s t : State} {l : LaneId} {n : Serial} {b : BoardRecord} {seg : Segment} {p : LaneId → Prop} {q : Port}
  {d : List Byte}

namespace State.RunsWet

/-! ### The commands' own changes -/

/-- A change of the Recipe Store that keeps the slots. -/
theorem setStore {x : RecipeStore} (hx : x.slots = s.store.slots) (h : s.RunsWet) : State.RunsWet { s with store := x } :=
  h.of_same hx (fun l => by cases l <;> rfl) rfl

/-- R33: a slot in use is not written, so no record names a slot that is. -/
theorem setRecipe {i : Fin 8} {r : RecipeSlot} (hi : ¬ s.slotInUse i = true) (h : s.RunsWet) :
    (s.setRecipe i r).RunsWet := fun l seg hrun b hb hloc => by
  have hrunning : (s.lane l).Runs seg := by cases l <;> exact hrun
  have hne : b.slot ≠ i := fun hslot => hi <| by
    have hpos : 0 < s.recordsNaming i :=
      List.length_pos_of_mem (List.mem_filter.2 ⟨hb, by simpa using hslot⟩)
    simp [State.slotInUse, hpos]
  have hrecipe : (s.setRecipe i r).recipe b.slot = s.recipe b.slot := by
    simp [State.recipe, State.setRecipe, Vector.getElem_set_ne, Fin.val_ne_of_ne hne.symm]
  rw [State.suppresses, hrecipe]
  exact h l seg hrunning b hb hloc

/-- R106: segments loaded behind the executing one leave it. -/
theorem loadPath {segs : List Segment} (hp : s.PlacedBut p) (h : s.RunsWet) :
    (s.modPath l fun pe => { pe with queue := (s.lane l).path.queue ++ segs }).RunsWet := by
  refine h.modLane fun seg ⟨hx, hn, hseg⟩ => ⟨hx, hn, ?_⟩
  obtain ⟨-, hexecuting, hfirst, hlast⟩ := (hp.lanes l).running hn
  obtain ⟨old, hold⟩ := (hp.lanes l).path.executing hexecuting hfirst hlast
  rw [hold, ← hseg]
  simp only [PathExec.executingSegment, PathExec.segment?, hexecuting, Option.bind_some, List.find?_append] at hold ⊢
  rw [hold, Option.some_or]

/-- R48: an announced board is in no lane. -/
theorem announce {r : BoardRecord} (hr : r.location = .announceQueue) (h : s.RunsWet) :
    State.RunsWet { s with records := s.records ++ [r] } := by
  refine .change (s := s) rfl (fun l seg hrun => by cases l <;> exact hrun) (fun l _ _ c hc hloc => ?_) h
  rcases List.mem_append.1 hc with hc | hc
  · exact ⟨c, hc, rfl⟩
  · rw [List.mem_singleton.1 hc, hr] at hloc
    cases hloc

end State.RunsWet

/-! ### Answers -/

/-- R115 holds in what a command leaves. -/
def Answer.RunsWet (a : Answer) : Prop := a.st.RunsWet

namespace Answer.RunsWet

theorem ite {c : Prop} [Decidable c] {a a' : Answer} (h : c → a.RunsWet) (g : ¬c → a'.RunsWet) :
    (if c then a else a').RunsWet := by
  split
  · exact h ‹_›
  · exact g ‹_›

theorem accept (h : s.RunsWet) : (Machine.accept d s).RunsWet := h

/-- A check that refuses before the rest. -/
theorem orRefuse {c : Prop} [Decidable c] {e : Status} {a : Answer} (h : s.RunsWet) (g : ¬c → a.RunsWet) :
    (if c then Machine.refuse e s else a).RunsWet := .ite (fun _ => h) g

end Answer.RunsWet

section Answers

theorem ackEventsAnswer_runsWet (h : s.RunsWet) : (ackEventsAnswer q d s).RunsWet := by
  refine .orRefuse h fun _ => ?_
  split
  · exact h
  · exact .accept h.modPort

theorem setNoticeMaskAnswer_runsWet (h : s.RunsWet) : (setNoticeMaskAnswer q d s).RunsWet := by
  refine .orRefuse h fun _ => ?_
  split
  · exact h
  · exact .accept h.modPort

theorem getEventsAnswer_runsWet (h : s.RunsWet) : (getEventsAnswer q d s).RunsWet := by
  refine .orRefuse h fun _ => .ite (fun _ => h) fun _ => ?_
  split <;> exact h

theorem setLineConfigAnswer_runsWet (h : s.RunsWet) : (setLineConfigAnswer q d s).RunsWet := by
  refine .orRefuse h fun _ => .orRefuse h fun _ => ?_
  split
  · exact h
  · exact .orRefuse h fun _ => .accept (.reevaluate (.judgeZones (.setSettings h)))

theorem writeRecipeAnswer_runsWet (h : s.RunsWet) : (writeRecipeAnswer q d s).RunsWet := by
  refine .orRefuse h fun _ => .orRefuse h fun _ => ?_
  split
  · exact h
  · refine .orRefuse h fun _ => .orRefuse h fun _ => ?_
    split
    · exact h
    · split
      · exact h
      · exact .orRefuse h fun _ => .orRefuse h fun hfree => .accept (h.setRecipe hfree)

theorem readRecipeAnswer_runsWet (h : s.RunsWet) : (readRecipeAnswer q d s).RunsWet := by
  refine .orRefuse h fun _ => .orRefuse h fun _ => ?_
  dsimp only
  split
  · exact h
  · refine .orRefuse h fun _ => .orRefuse h fun _ => .ite (fun _ => h) fun _ => .ite (fun _ => h) fun _ => ?_
    split <;> exact h

theorem writeFeatureMapAnswer_runsWet (h : s.RunsWet) : (writeFeatureMapAnswer q d s).RunsWet := by
  refine .orRefuse h fun _ => .orRefuse h fun _ => ?_
  split
  · exact h
  · refine .orRefuse h fun _ => ?_
    split
    · exact h
    · exact .orRefuse h fun _ => .orRefuse h fun hfree => .accept (h.setRecipe hfree)

theorem bindAliasAnswer_runsWet (h : s.RunsWet) : (bindAliasAnswer q d s).RunsWet := by
  refine .orRefuse h fun _ => .orRefuse h fun _ => ?_
  dsimp only
  split
  · exact h
  · refine .orRefuse h fun _ => .orRefuse h fun _ => ?_
    split
    · exact .accept (h.setStore rfl)
    · exact .ite (fun _ => .accept (h.setStore rfl)) fun _ => h

theorem unbindAliasAnswer_runsWet (h : s.RunsWet) : (unbindAliasAnswer q d s).RunsWet := by
  refine .orRefuse h fun _ => .orRefuse h fun _ => .orRefuse h fun _ => .orRefuse h fun _ => ?_
  split
  · exact h
  · exact .accept (h.setStore rfl)

theorem clearRecipesAnswer_runsWet (h : s.RunsWet) : (clearRecipesAnswer q d s).RunsWet :=
  .orRefuse h fun _ => .orRefuse h fun _ => .orRefuse h fun _ => .orRefuse h fun _ => .accept (h.setStore rfl)

theorem announceAnswer_runsWet (h : s.RunsWet) : (announceAnswer q d s).RunsWet := by
  refine .orRefuse h fun _ => .orRefuse h fun _ => ?_
  split
  · exact h
  · refine .orRefuse h fun _ => .orRefuse h fun _ => .orRefuse h fun _ => .orRefuse h fun _ => ?_
    split
    · exact h
    · exact .orRefuse h fun _ => .orRefuse h fun _ => .orRefuse h fun _ => .accept (.joinQueue (h.announce rfl))

theorem withdrawAnswer_runsWet (h : s.RunsWet) : (withdrawAnswer q d s).RunsWet := by
  refine .orRefuse h fun _ => .orRefuse h fun _ => .orRefuse h fun _ => ?_
  split
  · exact h
  · exact .ite (fun _ => .accept (.removeRecord (.leaveQueue h))) fun _ => h

theorem getBoardAnswer_runsWet (h : s.RunsWet) : (getBoardAnswer d s).RunsWet := by
  refine .orRefuse h fun _ => .orRefuse h fun _ => ?_
  split <;> exact h

theorem laneEnableAnswer_runsWet (h : s.RunsWet) : (laneEnableAnswer q d s).RunsWet := by
  refine .orRefuse h fun _ => .orRefuse h fun _ => ?_
  split
  · exact h
  · exact .orRefuse h fun _ => .accept (.ite (fun _ => .enterIdle h) fun _ => .modCtl id h)

theorem laneDisableAnswer_runsWet (h : s.RunsWet) : (laneDisableAnswer d s).RunsWet := by
  refine .orRefuse h fun _ => ?_
  split
  · exact h
  · exact .accept h.disableLane

theorem laneResetAnswer_runsWet (h : s.RunsWet) : (laneResetAnswer q d s).RunsWet := by
  refine .orRefuse h fun _ => .orRefuse h fun _ => ?_
  split
  · exact h
  · exact .accept h.resetLane

theorem setLaneConfigAnswer_runsWet (h : s.RunsWet) : (setLaneConfigAnswer q d s).RunsWet := by
  refine .orRefuse h fun _ => .orRefuse h fun _ => ?_
  split
  · exact h
  · exact .orRefuse h fun _ => .orRefuse h fun _ => .accept h.configureLane

theorem clearNozzleAnswer_runsWet (h : s.RunsWet) : (clearNozzleAnswer q d s).RunsWet := by
  refine .orRefuse h fun _ => .orRefuse h fun _ => ?_
  split
  · exact h
  · exact .ite (fun _ => .accept (.modMeter (.modCtl id h))) fun _ => h

/-- R104: an opened path has no segment yet. -/
theorem pathBeginAnswer_runsWet (h : s.RunsWet) : (pathBeginAnswer q d s).RunsWet := by
  refine .orRefuse h fun _ => .orRefuse h fun _ => ?_
  split
  · exact h
  · refine .orRefuse h fun _ => .orRefuse h fun _ => .orRefuse h fun _ => ?_
    split
    · exact h
    · refine .ite (fun _ => ?_) fun _ => .accept (h.emptyQueue rfl id)
      split
      · exact h
      · exact .ite (fun _ => .accept (h.emptyQueue rfl id)) fun _ => .laneHold (.addReason h)

theorem segmentsAnswer_runsWet (hp : s.PlacedBut p) (h : s.RunsWet) : (segmentsAnswer q d s).RunsWet := by
  refine .orRefuse h fun _ => .orRefuse h fun _ => ?_
  split
  · exact h
  · refine .orRefuse h fun _ => ?_
    split
    · exact h
    · exact .orRefuse h fun _ => h.loadPath hp

theorem pathEndAnswer_runsWet (h : s.RunsWet) : (pathEndAnswer q d s).RunsWet := by
  refine .orRefuse h fun _ => .orRefuse h fun _ => ?_
  split
  · exact h
  · refine .orRefuse h fun _ => .accept (.ite (fun _ => .sprayEnd ?_) fun _ => ?_)
    · exact .modPath id (fun _ => id) h
    · exact .modPath id (fun _ => id) h

theorem pathKeepAnswer_runsWet (h : s.RunsWet) : (pathKeepAnswer q d s).RunsWet := by
  refine .orRefuse h fun _ => .orRefuse h fun _ => ?_
  split
  · exact .orRefuse h fun _ => .accept (.modPath id (fun _ => id) h)
  · exact h

theorem pathDiscardAnswer_runsWet (h : s.RunsWet) : (pathDiscardAnswer q d s).RunsWet := by
  refine .orRefuse h fun _ => .orRefuse h fun _ => ?_
  split
  · exact h
  · exact .orRefuse h fun _ => .accept h.emptiedPath

theorem ovenAcceptAnswer_runsWet (h : s.RunsWet) : (ovenAcceptAnswer q d s).RunsWet := by
  refine .orRefuse h fun _ => .orRefuse h fun _ => ?_
  split
  · exact h
  · exact .orRefuse h fun _ => .accept (.ite (fun _ => .reevaluate (.setGate h)) fun _ => .setGate h)

theorem setOvenLayoutAnswer_runsWet (h : s.RunsWet) : (setOvenLayoutAnswer q d s).RunsWet :=
  .orRefuse h fun _ => .orRefuse h fun _ => .orRefuse h fun _ => .orRefuse h fun _ => .orRefuse h fun _ =>
    .orRefuse h fun _ => .accept (.judgeZones (.setOven h))

theorem resprayAnswer_runsWet {areas : List (Fin 12)} (h : s.RunsWet) : (resprayAnswer b l areas s).RunsWet :=
  .orRefuse h fun _ => .orRefuse h fun _ => .orRefuse h fun _ => .orRefuse h fun _ => .accept h.disposeRespray

theorem disposeAnswer_runsWet (h : s.RunsWet) : (disposeAnswer q d s).RunsWet := by
  refine .orRefuse h fun _ => ?_
  split
  · exact h
  · dsimp only
    split
    · exact h
    · refine .orRefuse h fun _ => ?_
      split
      · exact h
      · split
        · exact .accept h.disposeOut
        · exact .accept h.disposeOut
        · exact resprayAnswer_runsWet h
        · exact .orRefuse h fun _ => .accept h.disposeRecure

/-- R115 holds in what every answer leaves. -/
theorem commandAnswer_runsWet {f : Frame} (hp : s.PlacedBut p) (h : s.RunsWet) : (commandAnswer q f s).RunsWet := by
  unfold commandAnswer
  split
  case h_1 => exact .orRefuse h fun _ => h
  case h_2 => exact .orRefuse h fun _ => h
  case h_3 => exact getEventsAnswer_runsWet h
  case h_4 => exact ackEventsAnswer_runsWet h
  case h_5 => exact setNoticeMaskAnswer_runsWet h
  case h_6 => exact getBoardAnswer_runsWet h
  case h_7 => exact .orRefuse h fun _ => h
  case h_8 => exact setLineConfigAnswer_runsWet h
  case h_9 => exact setLaneConfigAnswer_runsWet h
  case h_10 => exact setOvenLayoutAnswer_runsWet h
  case h_11 => exact ovenAcceptAnswer_runsWet h
  case h_12 => exact writeRecipeAnswer_runsWet h
  case h_13 => exact readRecipeAnswer_runsWet h
  case h_14 => exact bindAliasAnswer_runsWet h
  case h_15 => exact unbindAliasAnswer_runsWet h
  case h_16 => exact writeFeatureMapAnswer_runsWet h
  case h_17 => exact clearRecipesAnswer_runsWet h
  case h_18 => exact laneEnableAnswer_runsWet h
  case h_19 => exact laneDisableAnswer_runsWet h
  case h_20 => exact laneResetAnswer_runsWet h
  case h_21 => exact .orRefuse h fun _ => .orRefuse h fun _ => .accept (.of_no_records rfl)
  case h_22 => exact clearNozzleAnswer_runsWet h
  case h_23 => exact announceAnswer_runsWet h
  case h_24 => exact withdrawAnswer_runsWet h
  case h_25 => exact pathBeginAnswer_runsWet h
  case h_26 => exact segmentsAnswer_runsWet hp h
  case h_27 => exact pathEndAnswer_runsWet h
  case h_28 => exact pathKeepAnswer_runsWet h
  case h_29 => exact pathDiscardAnswer_runsWet h
  case h_30 => exact disposeAnswer_runsWet h
  case h_31 => exact h

end Answers

/-- A command is taken and answered. -/
theorem takeCommand_runsWet {f : Frame} (hp : s.PlacedBut p) (h : s.RunsWet) :
    (takeCommand q f (commandAnswer q f) s).RunsWet := by
  cases ht : takeable q f s with
  | false =>
    rw [takeCommand_of_not_takeable q f _ s ht]
    exact h
  | true =>
    obtain ⟨rest, hready⟩ := (takeable_iff_ready q f s).1 ht
    rw [takeCommand_of_ready q f rest _ s hready]
    exact .modPort (commandAnswer_runsWet hp.modPort h.modPort)

/-! ### Rows and steps -/

/-- R115 holds wherever an occurrence leads. -/
def State.RunsWetNext (o : Host.Outcome State Fault Refusal) : Prop := ∀ t, o = .next t → t.RunsWet

namespace State.RunsWetNext

theorem next (h : t.RunsWet) : State.RunsWetNext (.next t) := fun _ he => by
  cases he
  exact h

theorem whenDue {c : Prop} [Decidable c] (h : s.RunsWet) (g : c → t.RunsWet) :
    State.RunsWetNext (if c then .next t else .next s) := by
  split
  · exact .next (g ‹_›)
  · exact .next h

end State.RunsWetNext

theorem execFlashReadyExpiry_runsWet {src : Source} (h : s.RunsWet) : State.RunsWetNext (execFlashReadyExpiry src s) := by
  unfold execFlashReadyExpiry
  split
  · exact .next h
  · exact .whenDue h fun _ => h.flashReady

theorem execLaneDeadlineExpiry_runsWet (h : s.RunsWet) : State.RunsWetNext (execLaneDeadlineExpiry l s) := by
  unfold execLaneDeadlineExpiry
  split
  · exact .next h
  · exact .whenDue h fun _ => .laneHold (.addReason (.setGate h))

theorem execReturnDeadlineExpiry_runsWet (h : s.RunsWet) : State.RunsWetNext (execReturnDeadlineExpiry s) := by
  unfold execReturnDeadlineExpiry
  split
  · exact .next h
  · exact .whenDue h fun _ => h.stationFails

theorem execReturnPresenceChange_runsWet {level : Bool} (h : s.RunsWet) :
    State.RunsWetNext (execReturnPresenceChange level s) := by
  unfold execReturnPresenceChange
  split
  · exact .next h
  · exact .next h.presenceChange

theorem execOvenEntryEvent_runsWet (h : s.RunsWet) : State.RunsWetNext (execOvenEntryEvent s) := by
  unfold execOvenEntryEvent
  split
  · exact .next (.raise h)
  · refine .next (.reevaluate (.freeSource ?_))
    split
    · exact .enterOven (.endGrant h)
    · exact .endGrant h

theorem execTransferTimerExpiry_runsWet (h : s.RunsWet) : State.RunsWetNext (execTransferTimerExpiry s) := by
  unfold execTransferTimerExpiry
  split
  · split
    · exact .next h.endGrant
    · exact .next h.transferFails.reevaluate
  · exact .next h

theorem execEncoderPulse_runsWet (h : s.RunsWet) : State.RunsWetNext (execEncoderPulse s) := by
  unfold execEncoderPulse
  split
  · exact .next h
  · dsimp only
    split
    · exact .next (.reevaluate (.setOven h))
    · exact .next (.setOven h)

theorem execOvenExitEvent_runsWet (h : s.RunsWet) : State.RunsWetNext (execOvenExitEvent s) := by
  unfold execOvenExitEvent
  split
  · exact .next (.raise h)
  · split
    · exact .next (.raise h)
    · exact .next h.popHead.reevaluate

theorem execEscalationDeadlineExpiry_runsWet (h : s.RunsWet) : State.RunsWetNext (execEscalationDeadlineExpiry n s) := by
  unfold execEscalationDeadlineExpiry
  split
  · exact .whenDue h fun _ => h.escalate
  · exact .next h

/-- R115, R117: the phase ends, and a START that waits is judged for the lane's one board. -/
theorem execOpenDelayEnd_runsWet (hp : s.PlacedBut fun _ => False) (h : s.RunsWet) :
    State.RunsWetNext (execOpenDelayEnd l s) := by
  unfold execOpenDelayEnd
  split
  · rename_i hd
    obtain ⟨-, hn, seg, hseg⟩ := hp.phase_segment hd nofun
    have hplaced := (hp.weaken (q := (· = l)) fun _ => False.elim).endOpenDelay (seg := seg) hn (.inl rfl)
    rw [hseg]
    exact .next (.serveStart (fun _ hb hloc => hplaced.single hb hloc) (h.endOpenDelay hn))
  · exact .next h

theorem execOpenEnd_runsWet (hp : s.PlacedBut fun _ => False) (h : s.RunsWet) : State.RunsWetNext (execOpenEnd l s) := by
  unfold execOpenEnd
  split
  · rename_i hd
    obtain ⟨-, hn, seg, hseg⟩ := hp.phase_segment hd nofun
    rw [hseg]
    exact .next (.serveStart
      (fun _ hb hloc => ((hp.weaken (q := (· = l)) fun _ => False.elim).enterClosing hn (.inl rfl)).single hb hloc)
      (h.enterClosing hn))
  · exact .next h

theorem execClosingEnd_runsWet (hp : s.PlacedBut fun _ => False) (h : s.RunsWet) :
    State.RunsWetNext (execClosingEnd l s) :=
  .whenDue h fun hd => by
    have hplaced := (hp.weaken (q := (· = l)) fun _ => False.elim).finishSegment (hp.phase_segment hd nofun).1 (.inl rfl)
    exact .serveStart (fun _ hb hloc => hplaced.single hb hloc) h.finishSegment

/-- R36: a clear that ends has met no record. -/
theorem execClearTimerExpiry_runsWet (hclear : s.ClearingFindsNoReference) (h : s.RunsWet) :
    State.RunsWetNext (execClearTimerExpiry s) :=
  .whenDue h fun hd => .raise (.of_no_records (hclear (isSome_of_timerDue hd)).1)

/-- Every row keeps R115: a command by its answer, the others by what they do. -/
theorem exec_runsWet {i : Instr} (hp : s.PlacedBut fun _ => False) (hclear : s.ClearingFindsNoReference) (h : s.RunsWet) :
    State.RunsWetNext (exec i s) := by
  cases hf : frameOf i with
  | some pf =>
    obtain ⟨q, f⟩ := pf
    rcases exec_of_frameOf hf s with he | ⟨he, -⟩
    · rw [he]
      exact .next (takeCommand_runsWet hp h)
    · rw [he]
      exact .next h
  | none =>
    cases i
    case powerOn => exact .next (.of_no_records rfl)
    case clearTimerExpiry => exact execClearTimerExpiry_runsWet hclear h
    case frameReceived => exact .next h.modPort
    case frameByteReceived => exact .next h.modPort
    case frameSent => exact .next h.modPort
    case frameGapExpiry => exact .whenDue h fun _ => h.modPort
    case slotAddressChange => exact .next h.modStation
    case stationGapExpiry => exact .whenDue h fun _ => .loseRecord h.modStation
    case startStrobe => exact .next (h.stationByte hp)
    case endStrobe => exact .next (h.stationByte hp)
    case inspectReading => exact .next (h.stationByte hp)
    case arrived => exact .next (h.stationByte hp)
    case cleared => exact .next (h.stationByte hp)
    case stationByteWritten => exact .next (h.stationByte hp)
    case paceTimerExpiry => exact .whenDue h fun _ => h.paceExpired hp.distinct
    case checkTimerExpiry => exact .whenDue h fun _ => h.endCheck
    case ejectTimerExpiry => exact .whenDue h fun _ => h.ejectExpired
    case openDelayEnd => exact execOpenDelayEnd_runsWet hp h
    case openEnd => exact execOpenEnd_runsWet hp h
    case closingEnd => exact execClosingEnd_runsWet hp h
    case segmentGapExpiry => exact .whenDue h fun _ => h.gapExpired
    case flowPulse => exact .next h.flowPulse
    case flashReadyExpiry => exact execFlashReadyExpiry_runsWet h
    case laneDeadlineExpiry => exact execLaneDeadlineExpiry_runsWet h
    case returnDeadlineExpiry => exact execReturnDeadlineExpiry_runsWet h
    case returnPresenceChange => exact execReturnPresenceChange_runsWet h
    case ovenEntryEvent => exact execOvenEntryEvent_runsWet h
    case transferTimerExpiry => exact execTransferTimerExpiry_runsWet h
    case encoderPulse => exact execEncoderPulse_runsWet h
    case ovenSensorRecord => exact .next h.sensorByte
    case ovenSensorByteReceived => exact .next h.sensorByte
    case ovenSensorGapExpiry => exact .whenDue h fun _ => h.sensorWaiting
    case zoneStaleExpiry => exact .whenDue h fun _ => h.makeStale
    case doseTick => exact .whenDue h fun _ => .doseAll (.setOven h)
    case ovenExitEvent => exact execOvenExitEvent_runsWet h
    case escalationDeadlineExpiry => exact execEscalationDeadlineExpiry_runsWet h
    case sprayEndTimeOld => exact .whenDue h fun _ => .modRecord (fun _ => rfl) h
    all_goals cases hf

theorem step_runsWet (hp : s.PlacedBut fun _ => False) (hclear : s.ClearingFindsNoReference) (h : s.RunsWet) :
    State.RunsWetNext (step s) := by
  unfold step
  split
  · exact exec_runsWet (hp.of_same rfl rfl rfl rfl) hclear (h.of_same rfl (fun l => by cases l <;> rfl) rfl)
  · split
    · exact exec_runsWet hp hclear h
    · exact .next (h.of_same rfl (fun l => by cases l <;> rfl) rfl)

/-! ### The law as O29 states it -/

/-- R114: a segment that is not suppressed for a board. -/
theorem unsuppressed_iff (s : State) (b : BoardRecord) (seg : Segment) :
    s.Unsuppressed b seg ↔ s.suppresses b seg = false := by
  rw [← Bool.not_eq_true, State.suppresses, suppressed_iff, State.Unsuppressed]
  simp [State.recipe]

/-- R115: the segment a sequencer executes, by its number. -/
theorem executingSegment_iff {pe : PathExec} :
    pe.executingSegment = some seg ↔
      pe.executing = some seg.number ∧ pe.queue.find? (fun x => decide (x.number = seg.number)) = some seg := by
  constructor
  · intro h
    obtain ⟨k, hk, hseg⟩ := Option.bind_eq_some_iff.1 h
    obtain rfl := (segment?_some hseg).2
    exact ⟨hk, hseg⟩
  · rintro ⟨hk, hseg⟩
    exact Option.bind_eq_some_iff.2 ⟨_, hk, hseg⟩

/-- With every board in its place, the law is that of each lane's board. -/
theorem runsWet_iff (hp : s.PlacedBut fun _ => False) : s.RunsWet ↔ ∀ l, s.RunsUnsuppressed l := by
  constructor
  · intro h l b seg hb hn hk hseg
    rw [unsuppressed_iff]
    exact h l seg ⟨((hp.lanes l).running hn).1, hn, executingSegment_iff.2 ⟨hk, hseg⟩⟩ b (board_mem s l b hb)
      (board_location s l b hb)
  · rintro h l seg ⟨-, hn, hseg⟩ b hb hloc
    obtain ⟨hk, hfind⟩ := executingSegment_iff.1 hseg
    exact (unsuppressed_iff ..).1 (h l b seg (hp.single hb hloc) hn hk hfind)

/-! ### The output lines (R76, R83, table 5.5) -/

/-- R76: busy follows the slot that the port addresses. -/
theorem busyLine_of_station {st : StationPort} (h : (s.lane l).station = st) :
    s.busyLine l = match st.address with
      | .startSlot => st.startSlot.isSome
      | .endSlot => st.endSlot.isSome
      | .inspectSlot => decide (4 ≤ st.inspectQueue.length)
      | .boardSlot => st.boardSlot.isSome := by
  subst h
  rfl

/-- 5.5: a valve drive is asserted while the lane is SPRAYING with its sequencer OPEN for a segment of that valve. -/
theorem valveDrive_iff (s : State) (l : LaneId) (v : Valve) :
    s.valveDrive l v = true ↔ (s.lane l).ctl.state = .spraying ∧ (s.lane l).path.seq = .opened ∧
      ∃ seg, (s.lane l).path.executingSegment = some seg ∧ seg.valve = v := by
  simp [State.valveDrive, Option.any_eq_true, and_assoc]

/-- 5.5: the one executing segment drives one valve. -/
theorem valveDrive_unique {v w : Valve} (hv : s.valveDrive l v = true) (hw : s.valveDrive l w = true) : v = w := by
  obtain ⟨-, -, seg, hseg, rfl⟩ := (valveDrive_iff ..).1 hv
  obtain ⟨-, -, seg', hseg', rfl⟩ := (valveDrive_iff ..).1 hw
  rw [Option.some.inj (hseg.symm.trans hseg')]

theorem gateRelease_iff (s : State) (src : Source) : s.gateRelease src = true ↔ s.gate.grant = some src :=
  decide_eq_true_iff

end Sys2Proof.Machine

open Sys2Proof Machine in
/-- Settles O29: the lines by the definitions that drive them; the law of R115 because a segment is started only
unsuppressed, and no operation of a step changes what R114 reads of the board of a running lane. -/
theorem Sys2Proof.outputLinesFollowTheState : Obligations.OutputLinesFollowTheState := by
  refine ⟨?busy, ?lines, ?law, ?drives⟩
  case busy =>
    intro s l slot t st
    have hstation : (t.lane l).station = { st with address := slot } := modStation_station ..
    exact ⟨rfl, busyLine_of_station hstation⟩
  case lines =>
    intro s l
    refine ⟨fun v => ?_, ?_, decide_eq_true_iff, gateRelease_iff s⟩
    · simp only [valveDrive_iff, executingSegment_iff, and_assoc]
    · rintro ⟨hbead, hatomize⟩
      exact nomatch valveDrive_unique hbead hatomize
  case law =>
    intro s t hplaced hclear hruns hstep
    have hp := (placed_iff s).1 hplaced
    exact (runsWet_iff (step_places hp t hstep)).1 (step_runsWet hp hclear ((runsWet_iff hp).2 hruns) t hstep)
  case drives =>
    intro s l hplaced hruns
    have hp := (placed_iff s).1 hplaced
    refine ⟨(gateRelease_iff ..).trans (hplaced.lanes l).grant, fun v hv => ?_⟩
    obtain ⟨hx, hopened, seg, hseg, hvalve⟩ := (valveDrive_iff ..).1 hv
    have hn : (s.lane l).path.seq ≠ .closed := by rw [hopened]; exact nofun
    obtain ⟨b, hb⟩ := hp.board_isSome (l := l) (by rw [hx]; rfl)
    obtain ⟨hk, hfind⟩ := executingSegment_iff.1 hseg
    obtain ⟨-, hcursor, -⟩ := (hp.lanes l).running hn
    exact ⟨b, seg, hb, List.mem_of_find?_eq_some hfind, Option.some.inj (hk.symm.trans hcursor), hvalve,
      hruns b seg hb hn hk hfind⟩
end

section
/-!
Path execution: completions (O41), the phases of the sequencer (O39), and PATH_END, PATH_KEEP and PATH_DISCARD (O37).
-/

namespace Sys2Proof.Machine

open Sys2Proof

variable {s : State} {l : LaneId} {seg : Segment} {b : BoardRecord}

/-! ### Completions (R110, R111, R117, R118) -/

@[simp] theorem raise_boardSerial (k : EventKind) (x : Option LaneId) (n : Serial) (c : Nat) (s : State) (l : LaneId) :
    (raise k x n c s).boardSerial l = s.boardSerial l := rfl

theorem queueLowKind_eq (l : LaneId) : queueLowKind l = if l = LaneId.lane0 then .queueLow0 else .queueLow1 := by
  cases l <;> rfl

theorem queueEmptyKind_eq (l : LaneId) : queueEmptyKind l = if l = LaneId.lane0 then .queueEmpty0 else .queueEmpty1 := by
  cases l <;> rfl

/-- R111: a cursor that fits a 16-bit code is the code of QUEUE_EMPTY. -/
theorem raiseQueueEmpty_of_lt (h : (s.lane l).path.cursor < 65536) :
    raiseQueueEmpty l s = raise (queueEmptyKind l) (some l) (s.boardSerial l) (s.lane l).path.cursor s := by
  rw [raiseQueueEmpty]
  exact if_pos h

/-- R110, R111: a fall is judged on an OPEN path only. -/
theorem judgeFall_of_opened {before : Nat} (hx : (s.lane l).path.state = .opened) :
    s.judgeFall l before =
      let now := (s.lane l).path.unexecuted
      let low := (s.lane l).ctl.settings.lowWater
      let s1 := if low ≤ before ∧ now < low then raise (queueLowKind l) (some l) (s.boardSerial l) now s else s
      if (s.lane l).ctl.state = .spraying ∧ 1 ≤ before ∧ now = 0 then raiseQueueEmpty l s1 else s1 := by
  rw [State.judgeFall]
  exact if_pos hx

theorem judgeFall_of_not_opened {before : Nat} (hx : (s.lane l).path.state ≠ .opened) : s.judgeFall l before = s := by
  rw [State.judgeFall]
  exact if_neg hx

/-- R117: the completion of the executing segment. -/
theorem finishSegment_of_executing (h : (s.lane l).path.executingSegment = some seg) :
    s.finishSegment l =
      ((((s.handOver l seg (s.lane l).meter.segPulses (s.lane l).path.openTime).modPath l fun pe => { pe with
        seq := .closed, executing := none, phaseTimer := none, cursor := pe.cursor + 1 }).judgeFall l
        (s.lane l).path.unexecuted).afterOutcome l) := by
  rw [State.finishSegment, h]

end Sys2Proof.Machine

open Sys2Proof Machine in
/-- Settles O41: the falls judged on an OPEN path, the two outcomes of a completion, and its order. -/
theorem Sys2Proof.completionAdvancesCursorAndRaisesQueueEvents :
    Obligations.CompletionAdvancesCursorAndRaisesQueueEvents := by
  intro s l
  refine ⟨fun before => ?fall, rfl, fun seg hk hseg => ?completion⟩
  case fall =>
    intro pe now serial low hcursor
    by_cases hx : pe.state = .opened
    · have hserial : s.boardSerial l = serial := by
        simp only [State.boardSerial, serial]
        cases s.board l <;> rfl
      have hempty (v : State) (hv : v.lane l = s.lane l) (hn : v.boardSerial l = serial) :
          raiseQueueEmpty l v =
            raise (if l = LaneId.lane0 then .queueEmpty0 else .queueEmpty1) (some l) serial pe.cursor v := by
        rw [raiseQueueEmpty_of_lt (by rwa [hv]), hv, hn, queueEmptyKind_eq]
      rw [judgeFall_of_opened hx, if_neg (not_not.2 hx), hserial, queueLowKind_eq]
      refine if_congr Iff.rfl (hempty _ ?_ ?_) rfl
      · split <;> simp
      · split <;> simp [hserial]
    · rw [judgeFall_of_not_opened hx, if_pos hx]
  case completion => exact finishSegment_of_executing (executingSegment_iff.2 ⟨hk, hseg⟩)

namespace Sys2Proof.Machine

open Sys2Proof

variable {s : State} {l : LaneId} {seg : Segment} {b : BoardRecord}

/-! ### The phases of the sequencer (R115 to R117, R129) -/

@[simp] theorem modPath_board (s : State) (l m : LaneId) (f : PathExec → PathExec) :
    (s.modPath l f).board m = s.board m := by
  simp only [State.board, modPath_records]

theorem phaseDue_of_reached {x : SeqState} {t : Time} (hx : (s.lane l).path.seq = x)
    (ht : (s.lane l).path.phaseTimer = some t) (hdue : reached s.clock t = true) : s.phaseDue l x = true := by
  simp [State.phaseDue, hx, timerDue_of_reached ht hdue]

/-- R129: the coated flag of a lane's board. -/
theorem coatBoard_of_board (hb : s.board l = some b) :
    s.coatBoard l = s.modRecord b.serial fun r => { r with coated := true } := by
  rw [State.coatBoard, hb]

theorem modRecord_modPath (s : State) (l : LaneId) (n : Serial) (f : BoardRecord → BoardRecord)
    (g : PathExec → PathExec) : (s.modPath l g).modRecord n f = (s.modRecord n f).modPath l g := by
  cases l <;> rfl

/-- R115, R129: OPEN_DELAY ends with a completion for an open time of 0, and otherwise in OPEN, where a START waits. -/
theorem endOpenDelay_serveStart (hx : (s.lane l).ctl.state = .spraying) (hb : s.board l = some b) :
    (s.endOpenDelay l seg).serveStart l =
      let t := openTimeOf (s.lane l).ctl.settings seg
      if t = 0 then ((s.modPath l fun pe => { pe with openTime := 0 }).finishSegment l).serveStart l
      else (s.modRecord b.serial fun r => { r with coated := true }).modPath l fun pe => { pe with
        seq := .opened, openedAt := s.clock, phaseTimer := some (s.clock + BitVec.ofNat 32 t) } := by
  rw [State.endOpenDelay]
  dsimp only
  split
  · rfl
  · rw [coatBoard_of_board (b := b) (by simpa using hb), modRecord_modPath,
      serveStart_of_running (by simpa using hx) (by simp)]
    rfl

end Sys2Proof.Machine

open Sys2Proof Machine in
/-- Settles O39: each phase that is due ends by its own operation, and a START is served where the sequencer is CLOSED. -/
theorem Sys2Proof.sequencerPhasesFollowTheSettings : Obligations.SequencerPhasesFollowTheSettings := by
  intro s l t seg b htimer hdue hx hb hk hfind c openTime settle
  have hseg : (s.lane l).path.executingSegment = some seg := executingSegment_iff.2 ⟨hk, hfind⟩
  have hopen : openTimeOf (s.lane l).ctl.settings seg = openTime := by
    simp only [openTimeOf, LaneSettings.closeLead, openTime, c]
    cases seg.valve <;> rfl
  have hsettle : (s.lane l).ctl.settings.closeSettle seg.valve = settle := rfl
  refine ⟨fun hseq => ?openDelay, fun hseq => ?opened, fun hseq => ?closing⟩
  case openDelay =>
    rw [exec, execOpenDelayEnd, if_pos (phaseDue_of_reached hseq htimer hdue), hseg]
    dsimp only
    rw [endOpenDelay_serveStart hx hb, hopen]
    rfl
  case opened =>
    intro closing
    rw [exec, execOpenEnd, if_pos (phaseDue_of_reached hseq htimer hdue), hseg]
    dsimp only
    rw [enterClosing_serveStart _ hx, hsettle, hopen]
  case closing => rw [exec, execClosingEnd, if_pos (phaseDue_of_reached hseq htimer hdue)]

namespace Sys2Proof.Machine

open Sys2Proof

variable {s : State} {l : LaneId}

/-! ### PATH_END, PATH_KEEP and PATH_DISCARD (R107 to R109) -/

theorem lastLoaded_of_getLast? {pe : PathExec} {x : Segment} (h : pe.queue.getLast? = some x) :
    pe.lastLoaded = x.number := by
  rw [PathExec.lastLoaded, h]
  rfl

theorem pathEndAnswer_refused (h : (s.lane l).path.state ≠ .opened ∨ (s.lane l).path.queue = []) :
    pathEndAnswer .line [toByte (laneNumber l)] s = refuse .wrongState s := by
  simp only [pathEndAnswer, byteAt_zero, laneOf_laneNumber, h, if_true]
  rfl

/-- R107: PATH_END declares the number of the last loaded segment. -/
theorem pathEndAnswer_accepted {x : Segment} (hx : (s.lane l).path.state = .opened)
    (hlast : (s.lane l).path.queue.getLast? = some x) :
    pathEndAnswer .line [toByte (laneNumber l)] s =
      let v := s.modPath l fun pe => { pe with state := .complete, last := some x.number }
      accept (bytes16 x.number)
        (if (s.lane l).ctl.state = .spraying ∧ x.number < (s.lane l).path.cursor then v.sprayEnd l else v) := by
  have hne : (s.lane l).path.queue ≠ [] := by
    rintro he
    simp [he] at hlast
  simp only [pathEndAnswer, byteAt_zero, laneOf_laneNumber, lastLoaded_of_getLast? hlast, hx, hne, ne_eq,
    not_true_eq_false, or_false, if_false]
  rfl

/-- R108: PATH_KEEP. -/
theorem pathKeepAnswer_payload (l : LaneId) (on : Bool) (s : State) :
    pathKeepAnswer .line [toByte (laneNumber l), flagByte on] s =
      if (s.lane l).path.state = .empty then refuse .wrongState s
      else accept [] (s.modPath l fun pe => { pe with keep := on }) := by
  simp only [pathKeepAnswer, byteAt_zero, byteAt_succ, laneOf_laneNumber, onOffOf_flagByte]
  rfl

/-- R109: PATH_DISCARD. -/
theorem pathDiscardAnswer_payload (l : LaneId) (s : State) :
    pathDiscardAnswer .line [toByte (laneNumber l)] s =
      if (s.lane l).ctl.state = .armed ∨ (s.lane l).ctl.state = .spraying then refuse .wrongState s
      else accept [toByte (s.lane l).path.queue.length] (s.modPath l PathExec.emptied) := by
  simp only [pathDiscardAnswer, byteAt_zero, laneOf_laneNumber]
  rfl

end Sys2Proof.Machine

open Sys2Proof Machine in
/-- Settles O37: the payloads are read back, and the conditions are those of R107 to R109. -/
theorem Sys2Proof.pathEndKeepAndDiscard : Obligations.PathEndKeepAndDiscard := by
  intro s tag rest l u pe answer
  refine ⟨fun hready => ⟨fun hrefused => ?refused, fun x hx hlast => ?accepted⟩, fun on hready => ?keep,
    fun hready => ?discard⟩
  case refused =>
    rw [exec_sent hready rfl, pathEndAnswer_refused (by simpa using hrefused)]
    rfl
  case accepted =>
    rw [exec_sent hready rfl, pathEndAnswer_accepted (by simpa using hx) (by simpa using hlast), taken_lane]
    rfl
  case keep =>
    rw [exec_sent hready rfl, pathKeepAnswer_payload, sent_ite, apply_ite Host.Outcome.next, taken_lane]
    rfl
  case discard =>
    rw [exec_sent hready rfl, pathDiscardAnswer_payload, sent_ite, apply_ite Host.Outcome.next, taken_lane]
    rfl
end

section
/-!
The spray end (O42): the film judged, the hold policy, and the path settled.
-/

namespace Sys2Proof.Machine

open Sys2Proof

variable {s : State} {l : LaneId} {n : Serial} {b : BoardRecord}

/-! ### The film judgement (R134, R135) -/

/-- A set joined only where there is a member to join is joined in any case. -/
theorem ite_setUnion_setOf {m : Nat} (v : FlagSet m) (f : Fin m → Bool) :
    (if setAny (setOf m f) then setUnion v (setOf m f) else v) = Vector.ofFn fun a => v[a] || f a := by
  split
  · exact setUnion_setOf v f
  · rename_i hnone
    have hf : ∀ a, f a = false := by simpa [setAny_setOf] using hnone
    ext i hi
    simp [hf]

/-- A member inserted where another set has any. -/
theorem ite_setInsert_setOf {m k : Nat} (v : FlagSet k) (j : Fin k) (f : Fin m → Bool) :
    (if setAny (setOf m f) then setInsert v j else v) =
      Vector.ofFn fun i => v[i] || (decide (i = j) && (List.finRange m).any f) := by
  have hany : setAny (setOf m f) = (List.finRange m).any f := by
    rw [Bool.eq_iff_iff, setAny_setOf]
    simp
  rw [hany]
  ext i hi
  cases (List.finRange m).any f with
  | false => simp
  | true => simp [setInsert, Vector.getElem_set, Fin.ext_iff, eq_comm, Bool.or_comm]

/-- R134, R135: the film judgement field by field, the areas found low and high being `low` and `high`. -/
theorem judgeFilm_eq {specs : List AreaSpec} {low high : Fin 12 → Bool}
    (hlow : judgedAreas specs b (fun f x => f < x.filmMin) = setOf 12 low)
    (hhigh : judgedAreas specs b (fun f x => x.filmMax < f) = setOf 12 high) :
    judgeFilm specs b = { b with
      filmLow := Vector.ofFn fun a => b.filmLow[a] || low a
      filmHigh := Vector.ofFn fun a => b.filmHigh[a] || high a
      reasons := Vector.ofFn fun i => b.reasons[i] ||
        (decide (i = Reason.filmLow.idx) && (List.finRange 12).any low) ||
        (decide (i = Reason.filmHigh.idx) && (List.finRange 12).any high) } := by
  have hreasons : (Vector.ofFn fun i => b.reasons[i] || (decide (i = Reason.filmLow.idx) && (List.finRange 12).any low) ||
      (decide (i = Reason.filmHigh.idx) && (List.finRange 12).any high)) =
      if setAny (setOf 12 high) then
        setInsert (if setAny (setOf 12 low) then setInsert b.reasons Reason.filmLow.idx else b.reasons) Reason.filmHigh.idx
      else if setAny (setOf 12 low) then setInsert b.reasons Reason.filmLow.idx else b.reasons := by
    rw [ite_setInsert_setOf, ite_setInsert_setOf]
    simp
  rw [hreasons, ← ite_setUnion_setOf, ← ite_setUnion_setOf, judgeFilm, hlow, hhigh]
  dsimp only
  split <;> split <;> rfl

/-- R46: the spray reasons are codes 4 to 12. -/
theorem hasSprayReason_iff (v : FlagSet 20) :
    hasSprayReason v = true ↔ ∃ i : Fin 20, 4 ≤ i.val + 1 ∧ i.val + 1 ≤ 12 ∧ v[i] = true := by
  simp only [hasSprayReason, List.any_eq_true, id, List.mem_take_iff_getElem, List.getElem_drop]
  constructor
  · rintro ⟨x, ⟨i, hi, rfl⟩, hx⟩
    simp only [List.length_drop, Vector.length_toList] at hi
    exact ⟨⟨3 + i, by omega⟩, (by omega : 4 ≤ 3 + i + 1), (by omega : 3 + i + 1 ≤ 12), by simpa using hx⟩
  · rintro ⟨i, h1, h2, hx⟩
    refine ⟨true, ⟨i.val - 3, by rw [List.length_drop, Vector.length_toList]; omega, ?_⟩, rfl⟩
    have hi : 3 + (i.val - 3) = i.val := by omega
    simpa [hi] using hx

/-! ### The hold policy (R136, R140, R141, R144) -/

/-- R17: a time `ms` away is reached at once for an `ms` of 0 only. -/
theorem reached_after (now : Time) {ms : Nat} (h : ms ≤ 2 ^ 31) : reached now (after now ms) = decide (ms = 0) := by
  have hnow := now.isLt
  simp only [reached, elapsed, after, BitVec.toNat_sub, BitVec.toNat_add, BitVec.toNat_ofNat, decide_eq_decide]
  omega

/-- R140: the entry of a board whose spray ends now. -/
theorem laneWaiting_of_sprayEnd (ht : b.sprayEnd = some ⟨s.clock, false⟩)
    (hflash : (s.recipe b.slot).timingD.flashOff ≤ 1800) :
    s.laneWaiting b = let t := (s.recipe b.slot).timingD
      { serial := b.serial, flashReady := s.clock + BitVec.ofNat 32 (t.flashOff * 1000)
        deadline := some (s.clock + BitVec.ofNat 32 (t.maxOpen * 1000))
        eligible := decide (t.flashOff = 0), flashTimer := true } := by
  have hready : ((s.recipe b.slot).timingD.flashOff * 1000 = 0) = ((s.recipe b.slot).timingD.flashOff = 0) := by simp
  simp only [State.laneWaiting, newWaiting, State.fromSprayEnd, ht, Bool.false_eq_true, if_false,
    reached_after s.clock (show (s.recipe b.slot).timingD.flashOff * 1000 ≤ 2 ^ 31 by omega), hready]
  rfl

/-- The record of a serial after a change of it. -/
theorem record?_modRecord_same {f : BoardRecord → BoardRecord} (hf : ∀ c, c.serial = n → (f c).serial = n)
    (hr : s.record? n = some b) : (s.modRecord n f).record? n = some (f b) := by
  rw [record?_modRecord s n hf, if_pos rfl, hr, Option.map_some]

/-- Replacing a record undoes a change made to it before. -/
theorem modRecord_replaced {f : BoardRecord → BoardRecord} (hf : ∀ c, (f c).serial = c.serial) (s : State) (n : Serial)
    (b : BoardRecord) : (s.modRecord n f).modRecord n (fun _ => b) = s.modRecord n fun _ => b := by
  rw [State.modRecord, State.modRecord, List.map_map]
  refine congrArg (fun r => { s with records := r }) (List.map_congr_left fun c _ => ?_)
  by_cases hn : c.serial = n <;> simp [hn, hf]

/-- R64: a lane that asks for a hold has no entry at the gate. -/
theorem laneHold_exit (hr : s.record? n = some b) : (s.laneHold l n).gate.exit l = none := by
  have hletGo : (s.letGo l).gate.exit l = none := by simp [State.letGo]
  rw [laneHold_of_record? hr]
  split
  · simpa [State.enterEjecting] using hletGo
  · simpa using hletGo

theorem reevaluateExit_of_exit {w : Option Waiting} (h : s.gate.exit l = w) :
    s.reevaluateExit l = if w.any (·.eligible) then s.reevaluate else s := by
  rw [State.reevaluateExit, h]

/-- R134 to R136: the pass judged, of a board with a record. -/
theorem judgePass_of_record? (hr : s.record? n = some b) :
    s.judgePass l n =
      let judged := judgeFilm (s.recipe b.slot).areasD b
      let s1 := s.modRecord n fun _ => judged
      if hasSprayReason judged.reasons ∧ (s.recipe b.slot).timingD.policy = .holdWet then s1.laneHold l n
      else s1.enterExitWait l judged := by
  rw [State.judgePass, hr]

/-! ### The spray end (R118, R119) -/

theorem lastLoaded_eq (pe : PathExec) :
    pe.lastLoaded = match pe.queue.getLast? with
      | some y => y.number
      | none => 0 := by
  rw [PathExec.lastLoaded]
  cases pe.queue.getLast? <;> rfl

/-- R119: a record whose spray ends now. -/
def BoardRecord.sprayed (now : Time) (b : BoardRecord) : BoardRecord := { b with sprayEnd := some ⟨now, false⟩ }

/-- R119: a Path Executor that runs nothing more. -/
def PathExec.stopped (pe : PathExec) : PathExec := { pe with seq := .closed, gapTimer := none }

/-- R119: the spray of lane `l` has ended, and the record of serial `n` is as its film was judged. -/
def State.sprayJudged (s : State) (l : LaneId) (n : Serial) (judged : BoardRecord) : State :=
  (s.modRecord n fun _ => judged).modPath l PathExec.stopped

theorem sprayEnd_def (hb : s.board l = some b) :
    s.sprayEnd l = (((((s.modPath l PathExec.stopped).modRecord b.serial (BoardRecord.sprayed s.clock)).judgePass l
      b.serial).modPath l PathExec.settled).reevaluateExit l) := by
  rw [State.sprayEnd, hb]
  rfl

/-- R119: the spray end of a lane's board: the film is judged, the hold policy applied, and the path settled. -/
theorem sprayEnd_of_board {judged : BoardRecord} (hd : (s.records.map (·.serial)).Nodup) (hb : s.board l = some b)
    (hj : judgeFilm (s.recipe b.slot).areasD (b.sprayed s.clock) = judged) :
    s.sprayEnd l =
      ((if hasSprayReason judged.reasons ∧ (s.recipe b.slot).timingD.policy = .holdWet then
          (s.sprayJudged l b.serial judged).laneHold l b.serial
        else (s.sprayJudged l b.serial judged).enterExitWait l judged).modPath l PathExec.settled).reevaluateExit l := by
  have hr : (s.modPath l PathExec.stopped).record? b.serial = some b :=
    (record?_eq_some_iff (by simpa using hd)).2 ⟨by simpa using board_mem s l b hb, rfl⟩
  have hrsprayed : ((s.modPath l PathExec.stopped).modRecord b.serial (BoardRecord.sprayed s.clock)).record? b.serial =
      some (b.sprayed s.clock) := record?_modRecord_same (fun _ hn => hn) hr
  have hrecipe : ((s.modPath l PathExec.stopped).modRecord b.serial (BoardRecord.sprayed s.clock)).recipe
      (b.sprayed s.clock).slot = s.recipe b.slot := by simp [State.recipe, BoardRecord.sprayed]
  rw [sprayEnd_def hb, judgePass_of_record? hrsprayed, hrecipe, hj]
  dsimp only
  rw [modRecord_replaced (f := BoardRecord.sprayed s.clock) (fun _ => rfl), modRecord_modPath]
  rfl

/-- R136: a spray end that holds the board leaves no entry at the gate to grant. -/
theorem sprayEnd_of_held {judged : BoardRecord} (hd : (s.records.map (·.serial)).Nodup) (hb : s.board l = some b)
    (hj : judgeFilm (s.recipe b.slot).areasD (b.sprayed s.clock) = judged) (hn : judged.serial = b.serial)
    (hold : hasSprayReason judged.reasons = true ∧ (s.recipe b.slot).timingD.policy = .holdWet) :
    s.sprayEnd l = ((s.sprayJudged l b.serial judged).laneHold l b.serial).modPath l PathExec.settled := by
  have hr : s.record? b.serial = some b := (record?_eq_some_iff hd).2 ⟨board_mem s l b hb, rfl⟩
  have hjudged : (s.sprayJudged l b.serial judged).record? b.serial = some judged := by
    have hmod : (s.modRecord b.serial fun _ => judged).record? b.serial = some judged :=
      record?_modRecord_same (fun _ _ => hn) hr
    cases l <;> exact hmod
  rw [sprayEnd_of_board hd hb hj, if_pos hold, reevaluateExit_of_exit (w := none) (by simpa using laneHold_exit hjudged)]
  rfl

/-- R136, R140, R144: a spray end that lets the board flash off; with no flash-off to wait for the gate re-evaluates. -/
theorem sprayEnd_of_requester {judged : BoardRecord} {w : Waiting} (hd : (s.records.map (·.serial)).Nodup)
    (hb : s.board l = some b) (hj : judgeFilm (s.recipe b.slot).areasD (b.sprayed s.clock) = judged)
    (hw : (s.sprayJudged l b.serial judged).laneWaiting judged = w)
    (hflash : ¬ (hasSprayReason judged.reasons = true ∧ (s.recipe b.slot).timingD.policy = .holdWet)) :
    s.sprayEnd l =
      let v := ((s.sprayJudged l b.serial judged).enterExitWait l judged).modPath l PathExec.settled
      if w.eligible then v.reevaluate else v := by
  have hexit : (((s.sprayJudged l b.serial judged).enterExitWait l judged).modPath l PathExec.settled).gate.exit l =
      some w := by simp [State.enterExitWait, ← hw]
  rw [sprayEnd_of_board hd hb hj, if_neg hflash, reevaluateExit_of_exit hexit]
  rfl

end Sys2Proof.Machine

open Sys2Proof Machine in
/-- Settles O42: the gap timer's expiry is a spray end, and a spray end judges the board, which the hold policy sends to a
hold or to the gate. -/
theorem Sys2Proof.sprayEndJudgesFilmAndSettlesThePath : Obligations.SprayEndJudgesFilmAndSettlesThePath := by
  intro s l b hb hd hflash
  refine ⟨fun t ht hdue hx => ?gap, ?spray⟩
  case gap =>
    intro left stopped
    rw [exec, execSegmentGapExpiry, if_pos (timerDue_of_reached ht hdue), State.gapExpired, hx, hb]
    refine congrArg (fun f => Host.Outcome.next ((((stopped.handOverAll l left).modPath l f).addReason b.serial
      .pathTimeout).sprayEnd l)) (funext fun pe => ?_)
    exact congrArg (fun k => { pe with cursor := max pe.cursor (k + 1) }) (lastLoaded_eq pe)
  case spray =>
    intro r out low high judged settled u
    have hareas (test : Nat → AreaSpec → Bool) :
        judgedAreas r.areasD (b.sprayed s.clock) test = Machine.setOf 12 (out test) := by
      refine congrArg Vector.ofFn (funext fun a => ?_)
      simp only [out, BoardRecord.sprayed]
      cases r.areasD[a.val]? <;> rfl
    have hj : judgeFilm (s.recipe b.slot).areasD (b.sprayed s.clock) = judged :=
      (judgeFilm_eq (low := low) (high := high) (hareas fun f x => f < x.filmMin)
        (hareas fun f x => x.filmMax < f)).trans rfl
    have hrecipe : s.recipe b.slot = r := rfl
    have hwait : r.timingD.flashOff ≤ 1800 := hflash
    have hserial : judged.serial = b.serial := rfl
    have hspray : judged.sprayEnd = some ⟨s.clock, false⟩ := rfl
    have hslot : u.recipe judged.slot = r := congrArg (fun st : RecipeStore => st.slots[b.slot]) (modPath_store ..)
    have hsettled : PathExec.settled = settled := rfl
    have hu : s.sprayJudged l b.serial judged = u := rfl
    have hclock : u.clock = s.clock := by simp [u]
    clear_value r judged settled u
    have hold : (hasSprayReason judged.reasons = true ∧ (s.recipe b.slot).timingD.policy = .holdWet) ↔
        (∃ i : Fin 20, 4 ≤ i.val + 1 ∧ i.val + 1 ≤ 12 ∧ judged.reasons[i] = true) ∧
          r.timingD.policy = .holdWet := by
      rw [hasSprayReason_iff, hrecipe]
    split
    · rename_i hheld
      rw [sprayEnd_of_held hd hb hj hserial (hold.2 hheld), hu, hsettled]
    · rename_i hflashes
      intro w v
      have hwaiting := laneWaiting_of_sprayEnd (s := u) (b := judged) (by rw [hspray, hclock])
        (by rwa [hslot])
      rw [sprayEnd_of_requester hd hb hj (by rw [hu, hwaiting]) (mt hold.1 hflashes)]
      simp only [hu, hslot, hsettled, decide_eq_true_eq]
      have hv : (u.enterExitWait l judged).modPath l settled = v := by
        rw [State.enterExitWait, hwaiting, hserial, hclock, hslot]
        cases l <;> rfl
      rw [hv]
end

section
/-!
SEGMENTS (O36): the records read back from their bytes, and what a record that is read satisfies.
-/

namespace Sys2Proof.Machine

open Sys2Proof

variable {s : State} {l : LaneId} {r : RecipeSlot} {x : Segment} {segs : List Segment} {xs : List (List Byte)}

/-! ### The records of a payload (R102) -/

theorem Segment.bytes_length (h : x.tags.length ≤ 4) : x.bytes.length = 15 := by
  simp [Segment.bytes]
  omega

/-- Items of one width in a row: the `i`-th. -/
theorem take_drop_flatten {w i : Nat} (h : ∀ d ∈ xs, d.length = w) (hi : i < xs.length) :
    (xs.flatten.drop (w * i)).take w = xs[i] := by
  induction xs generalizing i with
  | nil => simp at hi
  | cons d rest ih =>
    have hd : d.length = w := h d List.mem_cons_self
    rw [List.flatten_cons]
    cases i with
    | zero => simp [← hd]
    | succ i =>
      rw [show w * (i + 1) = d.length + w * i by rw [hd]; ring, List.drop_length_add_append]
      exact ih (fun e he => h e (List.mem_cons_of_mem _ he)) (by simpa using hi)

/-- Items of one width in a row: their length. -/
theorem length_flatten_const {w : Nat} (h : ∀ d ∈ xs, d.length = w) : xs.flatten.length = w * xs.length := by
  rw [List.length_flatten, List.map_congr_left h, List.map_const', List.sum_replicate, smul_eq_mul, mul_comm]

/-- R102: a payload of whole records falls into its records. -/
theorem segmentRecords_flatten (b : Byte) (h : ∀ d ∈ xs, d.length = 15) : segmentRecords (b :: xs.flatten) = xs := by
  have hcount : ((b :: xs.flatten).length - 1) / 15 = xs.length := by
    rw [List.length_cons, length_flatten_const h]
    omega
  refine List.ext_getElem (by rw [segmentRecords, hcount, List.length_map, List.length_range]) fun i _ hi => ?_
  simp only [segmentRecords, List.getElem_map, List.getElem_range, Nat.add_comm 1, List.drop_succ_cons]
  exact take_drop_flatten h hi

/-- R106: SEGMENTS with 1 to 8 whole records. -/
theorem segmentsAnswer_records (l : LaneId) (s : State) (h1 : 1 ≤ xs.length) (h8 : xs.length ≤ 8)
    (h : ∀ d ∈ xs, d.length = 15) :
    segmentsAnswer .line (toByte (laneNumber l) :: xs.flatten) s =
      let pe := (s.lane l).path
      if pe.state ≠ .opened then refuse .wrongState s
      else (pe.slot.bind fun i => parseSegments (s.recipe i) (pe.lastLoaded + 1) xs).elim (refuse .badValue s) fun p =>
        if 128 < pe.queue.length + p.1.length then refuse .full s
        else
          let s1 := s.modPath l fun y => { y with queue := pe.queue ++ p.1 }
          ⟨if p.2 then .clamped else .ok,
            bytes16 (s1.lane l).path.lastLoaded ++ [toByte (128 - (pe.queue ++ p.1).length)], s1⟩ := by
  have hlength : (toByte (laneNumber l) :: xs.flatten).length = 15 * xs.length + 1 := by
    rw [List.length_cons, length_flatten_const h]
  rw [segmentsAnswer, if_neg (by simp), if_neg (by omega), byteAt_zero, laneOf_laneNumber, segmentRecords_flatten _ h]
  refine if_congr Iff.rfl rfl ?_
  cases (s.lane l).path.slot.bind fun i => parseSegments (s.recipe i) ((s.lane l).path.lastLoaded + 1) xs <;> rfl

/-! ### A record that is read (R102, R103) -/

theorem byteAt_drop (d : List Byte) (k i : Nat) : byteAt (d.drop k) i = byteAt d (k + i) := by
  simp [byteAt]

theorem finOf_some {n : Nat} {b : Byte} {i : Fin n} (h : finOf n b = some i) : b.toNat = i.val := by
  unfold finOf at h
  split at h
  · cases h
    rfl
  · cases h

/-- R103: the tags that are read name distinct check slots of the recipe, and 0xFF stands behind them. -/
theorem parseTags_some {classes count : Nat} {tags : List Byte} {ks : List (Fin 16)} (hlen : tags.length = 4)
    (h : parseTags classes count tags = some ks) :
    count ≤ 4 ∧ (∀ i < count, (byteAt tags i).toNat < classes) ∧
      (∀ i < count, ∀ j < i, (byteAt tags j).toNat ≠ (byteAt tags i).toNat) ∧
      ∀ i < 4, count ≤ i → byteAt tags i = 0xFF#8 := by
  unfold parseTags at h
  split at h
  · cases h
  · rename_i js hread
    obtain ⟨⟨hcount, hnodup, hall, hrest⟩, -⟩ := Option.ite_none_right_eq_some.1 h
    have hforall := List.forall₂_iff_get.1 (mapM_some_iff.1 hread)
    have hlength : js.length = count := by
      rw [← hforall.1, List.length_take]
      omega
    have hbyte (i : Nat) (hi : i < count) : (byteAt tags i).toNat = (js[i]'(by omega)).val := by
      have hget := finOf_some (hforall.2 i (by rw [List.length_take]; omega) (by omega))
      simpa [byteAt, hlen, show i < 4 by omega] using hget
    refine ⟨hcount, fun i hi => ?_, fun i hi j hj => ?_, fun i hi hle => ?_⟩
    · rw [hbyte i hi]
      exact of_decide_eq_true (List.all_eq_true.1 hall _ (List.getElem_mem _))
    · rw [hbyte i hi, hbyte j (by omega), ne_eq, Fin.val_inj, hnodup.getElem_inj_iff]
      omega
    · have hmem : byteAt tags i ∈ tags.drop count :=
        List.mem_drop_iff_getElem.2 ⟨i - count, by omega, by simp [byteAt, hlen, hi, Nat.add_sub_cancel' hle]⟩
      simpa using List.all_eq_true.1 hrest _ hmem

/-- R102, R103: tags that fit are read as they are sent. -/
theorem parseTags_tags {classes : Nat} (h4 : x.tags.length ≤ 4) (hd : x.tags.Nodup)
    (hall : ∀ k ∈ x.tags, k.val < classes) :
    parseTags classes x.tags.length
      ((x.tags.map fun k => toByte k.val) ++ List.replicate (4 - x.tags.length) 0xFF#8) = some x.tags := by
  have htake : ((x.tags.map fun k => toByte k.val) ++ List.replicate (4 - x.tags.length) 0xFF#8).take x.tags.length =
      x.tags.map fun k => toByte k.val := List.take_left' (by simp)
  have hdrop : ((x.tags.map fun k => toByte k.val) ++ List.replicate (4 - x.tags.length) 0xFF#8).drop x.tags.length =
      List.replicate (4 - x.tags.length) 0xFF#8 := List.drop_left' (by simp)
  have hread : (x.tags.map fun k => toByte k.val).mapM (finOf 16) = some x.tags := by
    rw [mapM_some_iff, List.forall₂_map_left_iff, List.forall₂_same]
    exact fun k _ => finOf_toByte k (by omega)
  rw [parseTags, htake, hdrop, hread]
  exact if_pos ⟨h4, hd, by simpa using hall, by simp⟩

/-- R106: a record's flow as it is stored. -/
def Segment.clamped (x : Segment) : Segment := { x with flow := min 2000 x.flow }

/-- R102, R103: a record that fits is read as it is sent, its flow clamped. -/
theorem parseSegment_bytes (h : x.Fits r) (hn : x.number < 65536) :
    parseSegment r x.number x.bytes = some (x.clamped, decide (2000 < x.flow)) := by
  obtain ⟨harea, hlen1, hlen2, hspeed1, hspeed2, hflow1, hflow2, h4, hd, hall⟩ := h
  have hnumber : word16At x.bytes 0 = x.number := word16At_eq hn _
  have hlength : word16At x.bytes 4 = x.length := word16At_eq_last (n := x.length) (by omega)
  have hspeed : word16At x.bytes 6 = x.speed := word16At_eq_last (n := x.speed) (by omega)
  have hflow : word16At x.bytes 8 = x.flow := word16At_eq_last (n := x.flow) (by omega)
  have harea2 : finOf 12 (byteAt x.bytes 2) = some x.area := finOf_toByte x.area (by omega)
  have hvalve : byteAt x.bytes 3 = flagByte (decide (x.valve = .atomize)) := rfl
  have htags : parseTags r.featuresD.length (byteAt x.bytes 10).toNat (x.bytes.drop 11) = some x.tags := by
    have hcount : (byteAt x.bytes 10).toNat = x.tags.length := toByte_toNat (by omega)
    rw [hcount]
    exact parseTags_tags h4 hd hall
  rw [parseSegment, harea2, htags]
  simp only [hnumber, hlength, hspeed, hflow, hvalve]
  rw [if_pos ⟨trivial, harea, by cases x.valve <;> simp [flagByte], by omega, hspeed1, hspeed2, by omega⟩]
  cases hv : x.valve <;> simp [flagByte, Segment.clamped, hv]

/-- R102, R103: a record that is read fails no condition. -/
theorem not_segmentBytesFail_of_parseSegment {k : Nat} {d : List Byte} {p : Segment × Bool} (hlen : d.length = 15)
    (h : parseSegment r k d = some p) : ¬ SegmentBytesFail r k d := by
  unfold parseSegment at h
  split at h
  · rename_i area tags harea htags
    obtain ⟨⟨hnumber, hareas, hvalve, hlength, hspeed1, hspeed2, hflow⟩, -⟩ := Option.ite_none_right_eq_some.1 h
    obtain ⟨hcount, hclasses, hdistinct, hrest⟩ := parseTags_some (by rw [List.length_drop, hlen]) htags
    simp only [byteAt_drop] at hclasses hdistinct hrest
    have harea2 := finOf_some harea
    have hvalve2 : (byteAt d 3).toNat ≤ 1 := by rcases hvalve with hv | hv <;> rw [hv] <;> decide
    simp only [SegmentBytesFail, not_or]
    refine ⟨by omega, by omega, by omega, by omega, by omega, by omega, by omega, by omega,
      fun ⟨i, hi, hf⟩ => ?unknown, fun ⟨i, hi, j, hj, hf⟩ => ?twice, fun ⟨i, hi, hle, hf⟩ => ?behind⟩
    case unknown => exact absurd (hclasses i hi) (by omega)
    case twice => exact hdistinct i hi j hj hf
    case behind => exact hf (by rw [hrest i hi hle]; rfl)
  · cases h

/-- R103: records that fit, numbered on from `k`, are read one by one. -/
theorem parseSegments_bytes {k : Nat} (hn : segs.map (·.number) = (List.range segs.length).map (k + ·))
    (hk : k + segs.length ≤ 65536) (h : ∀ x ∈ segs, x.Fits r) :
    parseSegments r k (segs.map Segment.bytes) =
      some (segs.map Segment.clamped, segs.any fun x => decide (2000 < x.flow)) := by
  induction segs generalizing k with
  | nil => rfl
  | cons x rest ih =>
    rw [List.length_cons, List.range_succ_eq_map, List.map_cons, List.map_cons, List.map_map, List.cons.injEq] at hn
    obtain ⟨hx, hrest⟩ := hn
    have hnumber : x.number = k := hx
    rw [List.length_cons] at hk
    have hrest' : parseSegments r (k + 1) (rest.map Segment.bytes) = _ :=
      ih (by rw [hrest]; exact List.map_congr_left fun i _ => by simp; omega) (by omega)
        fun y hy => h y (List.mem_cons_of_mem _ hy)
    rw [List.map_cons, parseSegments, hrest', ← hnumber,
      parseSegment_bytes (h x List.mem_cons_self) (by omega)]
    rfl

/-- R103: where a payload's records are read, each of them is, under its number. -/
theorem parseSegment_of_parseSegments {k j : Nat} {p : List Segment × Bool} (h : parseSegments r k xs = some p)
    (hj : j < xs.length) : ∃ q, parseSegment r (k + j) xs[j] = some q := by
  induction xs generalizing k j p with
  | nil => simp at hj
  | cons d rest ih =>
    unfold parseSegments at h
    split at h
    · rename_i seg c segs cs hd hrest
      cases j with
      | zero => exact ⟨_, hd⟩
      | succ j =>
        obtain ⟨q, hq⟩ := ih hrest (by simpa using hj)
        exact ⟨q, by rw [← hq, Nat.add_assoc, Nat.add_comm 1 j]; rfl⟩
    · cases h

/-- R106: the last of the loaded records bears their count. -/
theorem lastLoaded_load {pe : PathExec} {k : Nat} (h : pe.Numbered) (hx : pe.state = .opened) (hk : pe.queue.length = k)
    (hn : segs.map (·.number) = (List.range segs.length).map (k + 1 + ·)) :
    PathExec.lastLoaded { pe with queue := pe.queue ++ segs } = k + segs.length := by
  subst hk
  rw [(h.load hx ?_).lastLoaded, List.length_append]
  rw [hn, h.lastLoaded]
  exact List.map_congr_left fun i _ => Nat.add_comm ..

end Sys2Proof.Machine

open Sys2Proof Machine in
/-- Settles O36: the records are read back from their bytes one by one, and none is read that fails a condition. -/
theorem Sys2Proof.segmentsJoinTheQueue : Obligations.SegmentsJoinTheQueue := by
  refine ⟨fun s tag rest l segs h1 h8 => ?sent, fun s tag rest l i xs h1 h8 h15 hx hslot hnum hfail => ?refused⟩
  case sent =>
    intro payload hready u q answer
    have hpayload : payload = toByte (laneNumber l) :: (segs.map Segment.bytes).flatten := rfl
    have hsome : 1 ≤ (segs.map Segment.bytes).length := by rwa [List.length_map]
    have hfew : (segs.map Segment.bytes).length ≤ 8 := by rwa [List.length_map]
    have h15 (h4 : ∀ x ∈ segs, x.tags.length ≤ 4) : ∀ d ∈ segs.map Segment.bytes, d.length = 15 :=
      List.forall_mem_map.2 fun x hx => Segment.bytes_length (h4 x hx)
    refine ⟨fun h4 hx => ?closed, fun i hx hslot hnum hq hn hfits => ?joined⟩
    case closed =>
      rw [exec_sent hready rfl, hpayload, segmentsAnswer_records l _ hsome hfew (h15 h4)]
      dsimp only
      rw [taken_lane, if_pos hx]
      rfl
    case joined =>
      have hparsed : parseSegments (s.recipe i) ((s.lane l).path.lastLoaded + 1) (segs.map Segment.bytes) =
          some (segs.map Segment.clamped, segs.any fun x => decide (2000 < x.flow)) := by
        rw [hnum.lastLoaded]
        exact parseSegments_bytes hn (by change q.length + 1 + segs.length ≤ 65536; omega) hfits
      have hlast : PathExec.lastLoaded { (s.lane l).path with queue := q ++ segs.map Segment.clamped } =
          q.length + segs.length := by
        rw [lastLoaded_load hnum hx rfl (by rw [List.map_map, List.length_map]; exact hn), List.length_map]
      have hreduced : (segs.any fun x => decide (2000 < x.flow)) = decide (∃ x ∈ segs, 2000 < x.flow) := by
        rw [Bool.eq_iff_iff, List.any_eq_true, decide_eq_true_iff]
        simp only [decide_eq_true_eq]
      have h4 : ∀ x ∈ segs, x.tags.length ≤ 4 := fun x hmem => by
        obtain ⟨-, -, -, -, -, -, -, h4, -⟩ := hfits x hmem
        exact h4
      rw [exec_sent hready rfl, hpayload, segmentsAnswer_records l _ hsome hfew (h15 h4)]
      dsimp only
      rw [taken_lane, hx, if_neg (by simp), hslot, Option.bind_some, taken_recipe, hparsed, Option.elim_some]
      dsimp only
      rw [modPath_path, taken_lane, hlast, List.length_append, List.length_map, hreduced, sent_ite]
      split
      · rfl
      · by_cases hclamp : ∃ x ∈ segs, 2000 < x.flow
        · simp only [hclamp, decide_true, if_true]
          rfl
        · simp only [hclamp, decide_false, Bool.false_eq_true, if_false]
          rfl
  case refused =>
    intro payload hready
    obtain ⟨j, hj, hfail⟩ := hfail
    have hnone : parseSegments (s.recipe i) ((s.lane l).path.lastLoaded + 1) xs = none := by
      rw [Option.eq_none_iff_forall_ne_some]
      intro p hp
      obtain ⟨q, hparsed⟩ := parseSegment_of_parseSegments hp hj
      refine not_segmentBytesFail_of_parseSegment (h15 _ (List.getElem_mem hj)) hparsed ?_
      rwa [hnum.lastLoaded, ← List.getD_eq_getElem _ [] hj]
    rw [exec_sent hready rfl, segmentsAnswer_records l _ h1 h8 h15]
    dsimp only
    rw [taken_lane, hx, if_neg (by simp), hslot, Option.bind_some, taken_recipe, hnone, Option.elim_none]
    rfl
end

section
/-!
FLOW_PULSE (O43): the one count that a pulse goes to.
-/

namespace Sys2Proof.Machine

open Sys2Proof

variable {s : State} {l : LaneId} {b : BoardRecord}

/-! ### Where a pulse goes (R124) -/

/-- R124, R126: with the valve open or closing, the pulse is the executing segment's. -/
theorem flowPulse_of_dispensing (hx : (s.lane l).ctl.state = .spraying)
    (hseq : (s.lane l).path.seq = .opened ∨ (s.lane l).path.seq = .closing) :
    s.flowPulse l = s.segmentPulse l := by
  rw [State.flowPulse, hx]
  rcases hseq with hopened | hclosing
  · rw [hopened]
  · rw [hclosing]

/-- R124, R127: with a board in the lane and no segment dispensing, the pulse is the board's drip. -/
theorem flowPulse_of_dripping
    (h : ((s.lane l).ctl.state = .spraying ∧
        ((s.lane l).path.seq = .closed ∨ (s.lane l).path.seq = .openDelay)) ∨
      (s.lane l).ctl.state = .checking ∨ (s.lane l).ctl.state = .armed ∨ (s.lane l).ctl.state = .exitWait) :
    s.flowPulse l = s.boardDrip l := by
  rw [State.flowPulse]
  rcases h with ⟨hx, hclosed | hdelay⟩ | hx | hx | hx
  · rw [hx, hclosed]
  · rw [hx, hdelay]
  · rw [hx]
  · rw [hx]
  · rw [hx]

/-- R124, R128: in every other lane state the pulse is the lane's idle drip. -/
theorem flowPulse_of_idling
    (h : (s.lane l).ctl.state ∈ [LaneState.off, .idle, .transfer, .ejecting, .blocked, .fault]) :
    s.flowPulse l = s.idleDrip l := by
  rw [State.flowPulse]
  cases hx : (s.lane l).ctl.state with
  | off | idle | transfer | ejecting | blocked | fault => rfl
  | checking | armed | spraying | exitWait => simp [hx] at h

/-! ### A board's drip (R127) -/

/-- R127: the count rises and stops at 65 535, and a count above the limit adds DRIP. -/
theorem dripOn_eq (limit : Nat) (b : BoardRecord) :
    dripOn limit b = { b with
      drip := min 65535 (b.drip + 1)
      reasons := if limit < min 65535 (b.drip + 1) then b.reasons.set Reason.drip.idx true else b.reasons } := by
  rw [dripOn]
  by_cases habove : limit < min 65535 (b.drip + 1)
  · rw [if_pos habove]
    exact if_pos habove
  · rw [if_neg habove]
    exact if_neg habove

theorem boardDrip_of_board (hb : s.board l = some b) :
    s.boardDrip l = s.modRecord b.serial (dripOn (s.recipe b.slot).timingD.dripLimit) := by
  rw [State.boardDrip, hb]

end Sys2Proof.Machine

open Sys2Proof Machine in
/-- Settles O43: lane state and sequencer pick one of the three counts, and the serial's one record is the board's. -/
theorem Sys2Proof.flowPulseGoesToOneCount : Obligations.FlowPulseGoesToOneCount := by
  intro s l x seq
  refine ⟨fun hx hseq => ?segment, fun b hb hd hdripping => ?board, fun hidling => ?idle⟩
  case segment => exact congrArg Host.Outcome.next (flowPulse_of_dispensing hx hseq)
  case board =>
    have hrecord : s.record? b.serial = some b := (record?_eq_some_iff hd).2 ⟨board_mem s l b hb, rfl⟩
    exact congrArg Host.Outcome.next <| calc
      s.flowPulse l = s.modRecord b.serial (dripOn (s.recipe b.slot).timingD.dripLimit) := by
        rw [flowPulse_of_dripping hdripping, boardDrip_of_board hb]
      _ = _ := modRecord_congr hd hrecord (dripOn_eq _ b)
  case idle => exact congrArg Host.Outcome.next (flowPulse_of_idling hidling)
end

section
/-!
The merge gate's re-evaluation (O46): the eligible entries, their order, and the grant to the first of them.
-/

namespace Sys2Proof.Machine

open Sys2Proof

variable {s : State} {src src' : Source} {w w' : Waiting} {c : Source × Option Nat}

/-! ### The claims and their order (R140, R142, R146) -/

/-- R146: the place of a source in the tie order. -/
def tieOrder (src : Source) : Nat :=
  match src with
  | .lane .lane0 => 0
  | .lane .lane1 => 1
  | .returnStation => 2

theorem tieOrder_le (src : Source) : tieOrder src ≤ 2 := by
  rcases src with (_ | _) | _ <;> decide

theorem tieOrder_inj (h : tieOrder src = tieOrder src') : src = src' := by
  rcases src with (_ | _) | _ <;> rcases src' with (_ | _) | _ <;> simp_all [tieOrder]

/-- R146: the number that orders a claim, as `State.rank` has it: a claim without a deadline counts as 2³¹ ms away. -/
def claimRank (c : Source × Option Nat) : Nat := 3 * c.2.getD (2 ^ 31) + tieOrder c.1

theorem rank_eq_claimRank (s : State) (src : Source) (w : Waiting) :
    s.rank src w = claimRank (src, w.deadline.map (remaining s.clock)) := by
  have htime : (w.deadline.map (remaining s.clock)).getD (2 ^ 31) = match w.deadline with
      | none => 2 ^ 31
      | some t => if (t - s.clock).toNat < 2 ^ 31 then (t - s.clock).toNat else 0 := by
    cases w.deadline with
    | none => exact Option.getD_none
    | some t => rw [Option.map_some, Option.getD_some, remaining]
  rw [claimRank, htime]
  rfl

/-- R146: at one rank there is one source. -/
theorem source_eq_of_rank_eq (h : s.rank src w = s.rank src' w') : src = src' := by
  rw [rank_eq_claimRank, rank_eq_claimRank, claimRank, claimRank] at h
  dsimp only at h
  have hle := tieOrder_le src
  have hle' := tieOrder_le src'
  exact tieOrder_inj (by omega)

theorem mem_claim_iff {now : Time} {o : Option Waiting} :
    c ∈ claim now src o ↔ ∃ w, o = some w ∧ w.eligible = true ∧ c = (src, w.deadline.map (remaining now)) := by
  cases o with
  | none => simp [claim]
  | some w => by_cases hw : w.eligible = true <;> simp [claim, hw]

/-- R142: the return station's entry is present while it is REQUESTING. -/
theorem stationEntry_eq_some_iff {g : Gate} :
    g.stationEntry = some w ↔ g.station = some w ∧ g.presence = true ∧ g.grant ≠ some .returnStation := by
  have hentry := stationEntry_some g
  cases hs : g.station with
  | none => simp [Gate.stationEntry, hs]
  | some x =>
    have hg : { g with station := some x } = g := by rw [← hs]
    rw [← hg, hentry x, Option.ite_none_right_eq_some]
    exact and_comm

/-- R140, R146: the claims are those of the eligible entries. -/
theorem mem_claims_iff :
    c ∈ s.claims ↔ ∃ w, s.Claims c.1 w ∧ c.2 = w.deadline.map (remaining s.clock) := by
  obtain ⟨src, d⟩ := c
  simp only [State.claims, List.mem_append, mem_claim_iff, stationEntry_eq_some_iff, State.Claims, Prod.mk.injEq]
  rcases src with (_ | _) | _ <;> simp [Gate.exit, and_assoc, and_left_comm]

theorem claim_source {now : Time} {o : Option Waiting} (h : c ∈ claim now src o) : c.1 = src := by
  obtain ⟨w, -, -, rfl⟩ := mem_claim_iff.1 h
  rfl

/-- The claims stand in the tie order. -/
theorem claims_pairwise_tieOrder (s : State) : s.claims.Pairwise fun c d => tieOrder c.1 < tieOrder d.1 := by
  have hone (src : Source) (o : Option Waiting) : (claim s.clock src o).Pairwise fun c d => tieOrder c.1 < tieOrder d.1 := by
    unfold claim
    split
    · split <;> simp
    · exact .nil
  rw [State.claims, List.pairwise_append, List.pairwise_append]
  refine ⟨⟨hone .., hone .., fun c hc d hd => ?_⟩, hone .., fun c hc d hd => ?_⟩
  · rw [claim_source hc, claim_source hd]
    decide
  · rw [claim_source hd]
    rcases List.mem_append.1 hc with hc | hc <;> rw [claim_source hc] <;> decide

theorem remaining_lt (now t : Time) : remaining now t < 2 ^ 31 := by
  unfold remaining
  split
  · assumption
  · exact Nat.two_pow_pos 31

/-- R146: no deadline ranks after every set one, as a time of 2³¹ ms does. -/
theorem earlier_iff {a b : Option Nat} (ha : ∀ t ∈ a, t < 2 ^ 31) (hb : ∀ t ∈ b, t < 2 ^ 31) :
    earlier a b = true ↔ a.getD (2 ^ 31) < b.getD (2 ^ 31) := by
  generalize (2 : ℕ) ^ 31 = horizon at *
  cases a with
  | none =>
    cases b with
    | none => simp [earlier]
    | some y => simpa [earlier] using (hb y rfl).le
  | some x =>
    cases b with
    | none => simpa [earlier] using ha x rfl
    | some y => simp [earlier]

/-- R146: the tie order decides only between equal times. -/
theorem claimRank_le {c d : Source × Option Nat} (h : c.2.getD (2 ^ 31) < d.2.getD (2 ^ 31) ∨
    c.2.getD (2 ^ 31) = d.2.getD (2 ^ 31) ∧ tieOrder c.1 ≤ tieOrder d.1) : claimRank c ≤ claimRank d := by
  have hle := tieOrder_le c.1
  simp only [claimRank]
  omega

theorem earliest_eq_none_iff {cs : List (Source × Option Nat)} : earliest cs = none ↔ cs = [] := by
  cases cs with
  | nil => simp [earliest]
  | cons c rest =>
    rw [earliest]
    cases earliest rest with
    | none => simp
    | some d => by_cases hd : earlier d.2 c.2 = true <;> simp [hd]

/-- R146: in the tie order, the earliest claim has the least rank. -/
theorem claimRank_earliest_le {cs : List (Source × Option Nat)} (htie : cs.Pairwise fun c d => tieOrder c.1 < tieOrder d.1)
    (htime : ∀ c ∈ cs, ∀ t ∈ c.2, t < 2 ^ 31)
    (h : earliest cs = some c) : ∀ d ∈ cs, claimRank c ≤ claimRank d := by
  induction cs generalizing c with
  | nil => simp
  | cons a rest ih =>
    obtain ⟨hfirst, hrest⟩ := List.pairwise_cons.1 htie
    obtain ⟨ha, htimes⟩ := List.forall_mem_cons.1 htime
    rw [earliest] at h
    cases he : earliest rest with
    | none =>
      rw [he] at h
      cases h
      rw [earliest_eq_none_iff.1 he]
      simp
    | some e =>
      have hmem : e ∈ rest := earliest_mem _ _ he
      have hleast := ih hrest htimes he
      rw [he] at h
      dsimp only at h
      rw [List.forall_mem_cons]
      split at h
      case isTrue hearlier =>
        cases h
        exact ⟨claimRank_le (.inl ((earlier_iff (htimes _ hmem) ha).1 hearlier)), hleast⟩
      case isFalse hlater =>
        cases h
        have htimes_le := mt (earlier_iff (htimes e hmem) ha).2 hlater
        have hae : claimRank a ≤ claimRank e :=
          claimRank_le ((not_lt.1 htimes_le).lt_or_eq.imp_right fun heq => ⟨heq, (hfirst e hmem).le⟩)
        exact ⟨le_rfl, fun d hd => hae.trans (hleast d hd)⟩

/-- R146: the entry of least rank is the earliest claim. -/
theorem earliest_claims_of_least (hw : s.Claims src w)
    (hleast : ∀ src' w', s.Claims src' w' → s.rank src w ≤ s.rank src' w') :
    ∃ t, earliest s.claims = some (src, t) := by
  have hmem : (src, w.deadline.map (remaining s.clock)) ∈ s.claims := mem_claims_iff.2 ⟨w, hw, rfl⟩
  have htime : ∀ c ∈ s.claims, ∀ t ∈ c.2, t < 2 ^ 31 := by
    intro c hc t ht
    obtain ⟨x, -, hx⟩ := mem_claims_iff.1 hc
    rw [hx, Option.mem_map] at ht
    obtain ⟨y, -, rfl⟩ := ht
    exact remaining_lt ..
  cases he : earliest s.claims with
  | none => simp [earliest_eq_none_iff.1 he] at hmem
  | some c =>
    obtain ⟨csrc, t⟩ := c
    obtain ⟨x, hx, rfl⟩ := mem_claims_iff.1 (earliest_mem _ _ he)
    have hle : s.rank csrc x ≤ s.rank src w := by
      rw [rank_eq_claimRank, rank_eq_claimRank]
      exact claimRank_earliest_le (claims_pairwise_tieOrder s) htime he _ hmem
    obtain rfl := source_eq_of_rank_eq (hle.antisymm (hleast _ _ hx))
    exact ⟨_, rfl⟩

/-! ### The free gate and the re-evaluation (R144, R147) -/

theorem gateFree_iff (s : State) :
    s.gateFree = true ↔ s.gate.grant = none ∧ s.gate.ovenAccept = true ∧ s.oven.queue.length < 12 ∧
      ∀ e, s.oven.queue.getLast? = some e → s.settings.entrySpacing * 1000 ≤ e.position := by
  rw [State.gateFree, Oven.tailPosition]
  cases s.oven.queue.getLast? <;> simp [and_assoc]

theorem reevaluate_of_least (hfree : s.gateFree = true) (hw : s.Claims src w)
    (hleast : ∀ src' w', s.Claims src' w' → s.rank src w ≤ s.rank src' w') : s.reevaluate = s.grantTo src := by
  obtain ⟨t, he⟩ := earliest_claims_of_least hw hleast
  rw [State.reevaluate, if_pos hfree, he]

theorem reevaluate_eq_self (h : ¬ (s.gateFree = true ∧ ∃ src w, s.Claims src w)) : s.reevaluate = s := by
  rcases reevaluate_cases s with he | ⟨c, hfree, hc, -⟩
  · exact he
  · obtain ⟨w, hw, -⟩ := mem_claims_iff.1 (earliest_mem _ _ hc)
    exact absurd ⟨hfree, c.1, w, hw⟩ h

end Sys2Proof.Machine

open Sys2Proof Machine in
/-- Settles O46: the claims are the eligible entries, and the earliest of them is the one of least rank. -/
theorem Sys2Proof.grantGoesToTheEarliestDeadline : Obligations.GrantGoesToTheEarliestDeadline := by
  intro s free timer
  refine ⟨fun hnone => reevaluate_eq_self ?_, fun src w hfree hw hleast => ?_⟩
  · rwa [gateFree_iff]
  · rw [reevaluate_of_least ((gateFree_iff s).2 hfree) hw hleast]
    obtain ⟨-, hentry⟩ := hw
    cases src with
    | lane l =>
      rw [grantTo_lane hentry]
      cases l <;> rfl
    | returnStation =>
      rw [grantTo_station hentry.1]
      rfl
end

section
/-!
The Entry Gate's timers and the presence input (O45).
-/

namespace Sys2Proof.Machine

open Sys2Proof

variable {s : State} {l : LaneId} {w : Waiting} {t : Time}

/-! ### The return station's state (R142) -/

theorem stationState_of_station (hw : s.gate.station = some w) (hg : s.gate.grant ≠ some .returnStation) :
    s.gate.stationState = if s.gate.presence then .requesting else .awaiting := by
  simp only [Gate.stationState, hw, hg, if_false]

/-- A station without a board, or with a granted one, does not wait for presence. -/
theorem stationState_ne_awaiting (h : s.gate.station = none ∨ s.gate.grant = some .returnStation) :
    s.gate.stationState ≠ .awaiting := by
  cases hs : s.gate.station with
  | none => simp [Gate.stationState, hs]
  | some w =>
    have hg : s.gate.grant = some .returnStation := h.resolve_left (by simp [hs])
    simp [Gate.stationState, hs, hg]

/-! ### The presence input (R142) -/

theorem presenceChange_of_not_awaiting (level : Bool) (h : s.gate.stationState ≠ .awaiting) :
    s.presenceChange level = { s with gate := { s.gate with presence := level } } := by
  simp only [State.presenceChange, h, if_false, false_and, Option.map_id']

/-- R142, R144: presence asserted in AWAITING makes the entry, and an eligible one has the gate re-evaluate. -/
theorem presenceChange_of_awaiting (hw : s.gate.station = some w) (hg : s.gate.grant ≠ some .returnStation)
    (hp : s.gate.presence = false) :
    s.presenceChange true =
      let eligible := w.eligible || reached s.clock w.flashReady
      let u := { s with gate := { s.gate with presence := true, station := some { w with eligible := eligible } } }
      if eligible then u.reevaluate else u := by
  have hx : s.gate.stationState = .awaiting := by simp [stationState_of_station hw hg, hp]
  have hentry := stationEntry_some { s.gate with presence := true }
    { w with eligible := w.eligible || reached s.clock w.flashReady }
  simp only [hg, ne_eq, not_false_eq_true, and_self, if_true] at hentry
  simp only [State.presenceChange, hx, and_self, if_true, hw, Option.map_some, State.reevaluateStation, hentry,
    Option.any_some]

/-! ### Flash-ready and the deadlines (R143) -/

theorem execFlashReadyExpiry_of_due {src : Source} (hw : s.gate.waiting src = some w) (htimer : w.flashTimer = true)
    (hdue : reached s.clock w.flashReady = true) : execFlashReadyExpiry src s = .next (s.flashReady src w) := by
  simp [execFlashReadyExpiry, hw, flashDue, htimer, hdue]

theorem flashReady_lane (s : State) (l : LaneId) (w : Waiting) :
    s.flashReady (.lane l) w = State.reevaluate
      { s with gate := s.gate.setExit l (some { w with eligible := true, flashTimer := false }) } := by
  simp [State.flashReady, Gate.setWaiting]

theorem flashReady_station (hw : s.gate.station = some w) (hg : s.gate.grant ≠ some .returnStation) :
    s.flashReady .returnStation w =
      let u := { s with gate := { s.gate with station := some { w with eligible := true, flashTimer := false } } }
      if s.gate.presence then u.reevaluate else u := by
  rw [State.flashReady, stationState_of_station hw hg]
  cases s.gate.presence <;> rfl

theorem waiting_station (hw : s.gate.station = some w) (hg : s.gate.grant ≠ some .returnStation) :
    s.gate.waiting .returnStation = some w := by
  rw [Gate.waiting, if_neg hg, hw]

theorem setExit_eq (g : Gate) (l : LaneId) (w : Option Waiting) :
    g.setExit l w = { g with
      exit0 := if l = .lane0 then w else g.exit0
      exit1 := if l = .lane1 then w else g.exit1 } := by cases l <;> rfl

theorem execLaneDeadlineExpiry_of_due (hw : s.gate.exit l = some w) (ht : w.deadline = some t)
    (hdue : reached s.clock t = true) :
    execLaneDeadlineExpiry l s = .next
      ((State.addReason { s with gate := s.gate.setExit l none } w.serial .openTime).laneHold l w.serial) := by
  simp only [execLaneDeadlineExpiry, hw, timerDue_of_reached ht hdue, if_true]

theorem execReturnDeadlineExpiry_of_due (hw : s.gate.waiting .returnStation = some w) (ht : w.deadline = some t)
    (hdue : reached s.clock t = true) :
    execReturnDeadlineExpiry s = .next (s.stationFails w.serial .wetExpired) := by
  simp only [execReturnDeadlineExpiry, hw, timerDue_of_reached ht hdue, if_true]

end Sys2Proof.Machine

open Sys2Proof Machine in
/-- Settles O45: the timers are due, and presence matters to a board that is not granted. -/
theorem Sys2Proof.waitingBoardsBecomeEligibleOrExpire : Obligations.WaitingBoardsBecomeEligibleOrExpire := by
  intro s
  have hchange (level : Bool) (hne : level ≠ s.gate.presence) :
      exec (.returnPresenceChange level) s = .next (s.presenceChange level) := by
    rw [exec, execReturnPresenceChange, if_neg hne.symm]
  refine ⟨?same, fun level hne hidle => ?moves, fun l w hw htimer hdue => ?laneFlash,
    fun l w t hw ht hdue => ?laneDeadline,
    fun w hw hg => ⟨fun htimer hdue => ?stationFlash, fun t b ht hdue hb => ?stationDeadline, fun hp => ?rise,
      fun hp => ?fall⟩⟩
  case same => rw [exec, execReturnPresenceChange, if_pos rfl]
  case moves => rw [hchange level hne, presenceChange_of_not_awaiting level (stationState_ne_awaiting hidle)]
  case laneFlash =>
    intro w'
    rw [exec, execFlashReadyExpiry_of_due (src := .lane l) hw htimer hdue, flashReady_lane, setExit_eq]
  case laneDeadline => rw [exec, execLaneDeadlineExpiry_of_due hw ht hdue, setExit_eq]
  case stationFlash => rw [exec, execFlashReadyExpiry_of_due (waiting_station hw hg) htimer hdue, flashReady_station hw hg]
  case stationDeadline =>
    rw [exec, execReturnDeadlineExpiry_of_due (waiting_station hw hg) ht hdue, stationFails_of_record hb]
    rfl
  case rise => rw [hchange true (by simp [hp]), presenceChange_of_awaiting hw hg hp]
  case fall =>
    have hx : s.gate.stationState ≠ .awaiting := by simp [stationState_of_station hw hg, hp]
    rw [hchange false (by simp [hp]), presenceChange_of_not_awaiting false hx]
end

section
/-!
OVEN_ACCEPT and SET_OVEN_LAYOUT (O47): the flag and the layout read back from their bytes.
-/

namespace Sys2Proof.Machine

open Sys2Proof

/-! ### OVEN_ACCEPT (R145) -/

theorem ovenAcceptAnswer_flag (s : State) (on : Bool) :
    ovenAcceptAnswer .line [flagByte on] s =
      if s.oven.layout = none then refuse .wrongState s
      else
        let v := { s with gate := { s.gate with ovenAccept := on } }
        accept [flagByte s.gate.ovenAccept] (if on = true ∧ s.gate.ovenAccept = false then v.reevaluate else v) := by
  simp only [ovenAcceptAnswer, byteAt_zero, onOffOf_flagByte, Option.isNone_iff_eq_none]
  rfl

/-! ### SET_OVEN_LAYOUT (R153) -/

/-- The payload that carries a layout. -/
def Layout.payload (y : Layout) : List Byte :=
  toByte y.lengths.length :: (bytes16 y.pitch ++ y.lengths.flatMap bytes16)

theorem layoutPayload_length (y : Layout) : y.payload.length = 3 + 2 * y.lengths.length := by
  simp only [Layout.payload, List.length_cons, List.length_append, bytes16_length, length_flatMap_const bytes16_length]
  omega

theorem word16At_layoutPayload {y : Layout} (hlengths : ∀ x ∈ y.lengths, x ≤ 65535) {i : Nat}
    (hi : i < y.lengths.length) : word16At y.payload (3 + 2 * i) = y.lengths[i] := by
  have hx : y.lengths[i] < 65536 := Nat.lt_succ_of_le (hlengths _ (List.getElem_mem hi))
  calc word16At y.payload (3 + 2 * i)
      = word16At (bytes16 y.pitch ++ y.lengths.flatMap bytes16) (2 * i + 2) := by
        rw [show 3 + 2 * i = (2 * i + 2) + 1 by omega, Layout.payload, word16At_succ]
    _ = word16At (y.lengths.flatMap bytes16) (2 * i + 0) := word16At_bytes16_skip ..
    _ = word16At (bytes16 y.lengths[i]) 0 := word16At_flatMap bytes16_length hi (by decide)
    _ = y.lengths[i] := word16At_eq_last hx

theorem byteAt_layoutPayload {y : Layout} (hcount : y.lengths.length ≤ 6) :
    (byteAt y.payload 0).toNat = y.lengths.length := toByte_toNat (by omega)

theorem layoutOf_payload {y : Layout} (hpitch : y.pitch ≤ 65535) (hcount : y.lengths.length ≤ 6)
    (hlengths : ∀ x ∈ y.lengths, x ≤ 65535) : layoutOf y.payload = y := by
  have hread : word16At y.payload 1 = y.pitch :=
    word16At_eq (by omega) (y.lengths.flatMap bytes16)
  have hzones : ((List.range y.lengths.length).map fun i => word16At y.payload (3 + 2 * i)) = y.lengths :=
    List.ext_getElem (by simp) fun i _ hi => by simpa using word16At_layoutPayload hlengths hi
  rw [layoutOf, hread, byteAt_layoutPayload hcount, hzones]

/-- R153: the layout a payload carries is read back, and takes effect when its values are in their ranges and the oven and
the gate are clear. -/
theorem setOvenLayoutAnswer_payload {y : Layout} (hpitch : y.pitch ≤ 65535) (hsome : 1 ≤ y.lengths.length)
    (hcount : y.lengths.length ≤ 6) (hlengths : ∀ x ∈ y.lengths, x ≤ 65535) (s : State) :
    setOvenLayoutAnswer .line y.payload s =
      if y.pitch = 0 ∨ ∃ x ∈ y.lengths, x < 100 ∨ 20000 < x then refuse .badValue s
      else if s.oven.queue ≠ [] ∨ s.gate.grant ≠ none then refuse .inUse s
      else accept (bytes32 y.lengths.sum)
        (State.judgeZones { s with oven := { s.oven with layout := some y } } (List.finRange 6)) := by
  have hlen := layoutPayload_length y
  have hrange : ¬ y.lengths.all (fun x => 100 ≤ x && x ≤ 20000) = true ↔ ∃ x ∈ y.lengths, x < 100 ∨ 20000 < x := by
    simp only [List.all_eq_true, Bool.and_eq_true, decide_eq_true_eq, not_forall, not_and_or, not_le, exists_prop]
  simp only [setOvenLayoutAnswer, layoutOf_payload hpitch hcount hlengths, byteAt_layoutPayload hcount, hlen, hrange]
  rw [if_neg (by simp), if_neg (by omega), if_neg (by omega), if_neg (by simp)]
  simp only [Option.isSome_iff_ne_none]
  rfl

end Sys2Proof.Machine

open Sys2Proof Machine in
/-- Settles O47: the payloads are read back, and the conditions are those of R145 and R153 in their order. -/
theorem Sys2Proof.ovenCommandsSetAcceptAndLayout : Obligations.OvenCommandsSetAcceptAndLayout := by
  intro s tag rest u answer
  refine ⟨fun on hready => ?accept, fun pitch lengths hpitch hsome hcount hlengths => ?layout⟩
  case accept =>
    rw [exec_sent hready rfl, ovenAcceptAnswer_flag, sent_ite, taken_oven, taken_gate, apply_ite Host.Outcome.next]
    rfl
  case layout =>
    intro payload hready
    have hanswer : setOvenLayoutAnswer .line payload (s.taken .line rest) = _ :=
      setOvenLayoutAnswer_payload (y := ⟨pitch, lengths⟩) hpitch hsome hcount hlengths _
    rw [exec_sent hready rfl, hanswer, sent_ite, sent_ite, taken_oven, taken_gate, apply_ite Host.Outcome.next,
      apply_ite Host.Outcome.next]
    rfl
end

section
/-!
The conveyor encoder and the dose tick (O50): how far the boards move, and which zone doses each.
-/

namespace Sys2Proof.Machine

open Sys2Proof

variable {s : State} {o : Oven} {y : Layout} {es : List OvenEntry}

/-! ### The encoder (R144, R159) -/

theorem tailPosition_advance (o : Oven) (pitch : Nat) :
    (o.advance pitch).tailPosition = o.tailPosition.map fun x => satAdd (2 ^ 32 - 1) x pitch := by
  rw [Oven.tailPosition, Oven.advance, List.getLast?_map, Option.map_map, Oven.tailPosition, Option.map_map]
  rfl

/-- R144: the pulse takes the tail from below the entry spacing to it or beyond. -/
theorem crossesSpacing_advance_iff (o : Oven) (spacing pitch : Nat) :
    crossesSpacing spacing o.tailPosition (o.advance pitch).tailPosition = true ↔
      ∃ e ∈ o.queue.getLast?, e.position < spacing * 1000 ∧
        spacing * 1000 ≤ min (2 ^ 32 - 1) (e.position + pitch) := by
  rw [tailPosition_advance, Oven.tailPosition, crossesSpacing]
  cases o.queue.getLast? <;> simp [satAdd]

theorem execEncoderPulse_of_layout (hy : s.oven.layout = some y) :
    execEncoderPulse s =
      let u := { s with oven := s.oven.advance y.pitch }
      .next (if crossesSpacing s.settings.entrySpacing s.oven.tailPosition u.oven.tailPosition then u.reevaluate
        else u) := by
  simp only [execEncoderPulse, hy, apply_ite Host.Outcome.next]

/-! ### The zone of a position (R154) -/

/-- R154: zone `i` of a layout holds position `x`: its range does, or it is the last and `x` lies beyond its start. -/
def Layout.Holds (y : Layout) (i x : Nat) : Prop :=
  i < y.lengths.length ∧ (y.lengths.take i).sum * 1000 ≤ x ∧
    (x < (y.lengths.take (i + 1)).sum * 1000 ∨ i + 1 = y.lengths.length)

/-- R154: a position is held by one zone. -/
theorem holds_unique {i j x : Nat} (hi : y.Holds i x) (hj : y.Holds j x) : i = j := by
  have hnot {i j : Nat} (hi : y.Holds i x) (hj : y.Holds j x) : ¬ i < j := by
    intro hlt
    obtain ⟨-, -, hend⟩ := hi
    obtain ⟨hj, hstart, -⟩ := hj
    have hsum : (y.lengths.take (i + 1)).sum ≤ (y.lengths.take j).sum :=
      (List.take_sublist_take_left hlt).sum_le_sum fun _ _ => Nat.zero_le _
    omega
  have hij := hnot hi hj
  have hji := hnot hj hi
  omega

/-- R154: the search from a zone's start ends in the zone whose range holds the position, or in the last. -/
theorem zoneFrom_holds (lengths : List Nat) (hne : lengths ≠ []) (first start x : Nat) (hx : start ≤ x) :
    ∃ i, zoneFrom lengths first start x = first + i ∧ i < lengths.length ∧ start + (lengths.take i).sum * 1000 ≤ x ∧
      (x < start + (lengths.take (i + 1)).sum * 1000 ∨ i + 1 = lengths.length) := by
  induction lengths generalizing first start with
  | nil => exact absurd rfl hne
  | cons len rest ih =>
    rw [zoneFrom]
    split
    case isTrue hin => exact ⟨0, rfl, by simp, by simpa using hx, .inl (by simpa using hin)⟩
    case isFalse hout =>
      cases rest with
      | nil => exact ⟨0, by simp [zoneFrom], by simp, by simpa using hx, .inr rfl⟩
      | cons next more =>
        obtain ⟨i, hzone, hi, hstart, hend⟩ := ih nofun (first + 1) (start + len * 1000) (not_lt.1 hout)
        refine ⟨i + 1, by omega, by simpa using hi, ?_, ?_⟩
        · rw [List.take_succ_cons, List.sum_cons]
          omega
        · rw [List.take_succ_cons, List.sum_cons, List.length_cons]
          omega

theorem zoneOf_holds (hne : y.lengths ≠ []) (x : Nat) : y.Holds (y.zoneOf x) x := by
  obtain ⟨i, hzone, hi, hstart, hend⟩ := zoneFrom_holds y.lengths hne 0 0 x (Nat.zero_le x)
  have hz : y.zoneOf x = i := by rw [Layout.zoneOf, hzone, Nat.zero_add]
  rw [hz]
  exact ⟨hi, by omega, by omega⟩

/-! ### The temperature a board is dosed with (R156) -/

/-- A search that can find a value at one member only. -/
theorem findSome?_unique {α β : Type} {p : α → Prop} [DecidablePred p] {f : α → Option β} {as : List α} {a : α}
    (hmem : a ∈ as) (ha : p a) (hunique : ∀ b, p b → b = a) :
    (as.findSome? fun b => if p b then f b else none) = f a := by
  induction as with
  | nil => cases hmem
  | cons b rest ih =>
    rw [List.findSome?_cons]
    by_cases hb : p b
    · obtain rfl := hunique b hb
      rw [if_pos hb]
      cases hf : f b with
      | some v => rfl
      | none =>
        refine List.findSome?_eq_none_iff.2 fun c _ => ?_
        split
        · rename_i hc
          rwa [hunique c hc]
        · rfl
    · rw [if_neg hb]
      exact ih ((List.mem_cons.1 hmem).resolve_left fun he => hb (he ▸ ha))

/-- R156: the temperature of the one zone that holds the position, if that zone is usable. -/
theorem usableTemp_eq (hy : o.layout = some y) (hsome : 1 ≤ y.lengths.length) (hcount : y.lengths.length ≤ 6) (x : Nat)
    {p : Fin 6 → Prop} [DecidablePred p] (hp : ∀ i, p i ↔ y.Holds i x) :
    o.usableTemp x = (List.finRange 6).findSome? fun i =>
      if p i then (if o.zones[i].stale then none else o.zones[i].temp) else none := by
  have hholds : y.Holds (y.zoneOf x) x := zoneOf_holds (List.ne_nil_of_length_pos hsome) x
  have hzone : y.zoneOf x < 6 := hholds.1.trans_le hcount
  rw [findSome?_unique (a := (⟨y.zoneOf x, hzone⟩ : Fin 6)) (List.mem_finRange _) ((hp _).2 hholds)
    fun i hi => Fin.ext (holds_unique ((hp i).1 hi) hholds)]
  simp only [Oven.usableTemp, hy, hzone, dif_pos]
  rfl

/-! ### The dose tick (R160) -/

theorem doseBoard_serial (c : Cure) (temp : Option Int) (b : BoardRecord) : (doseBoard c temp b).serial = b.serial :=
  (doseBoard_within c temp b).1

/-- R160: the record of a board after a tick that doses the entries `es`. -/
def State.dosed (s : State) (es : List OvenEntry) (b : BoardRecord) : BoardRecord :=
  match es.find? fun e => e.serial = b.serial with
  | none => b
  | some e => doseBoard (s.recipe b.slot).cureD (s.oven.usableTemp e.position) b

/-- R160: with an entry per serial, each board is dosed once, by its own entry. -/
theorem doseAll_eq (s : State) (hd : (es.map (·.serial)).Nodup) :
    s.doseAll es = { s with records := s.records.map (s.dosed es) } := by
  induction es generalizing s with
  | nil =>
    have hsame : s.dosed [] = id := rfl
    rw [State.doseAll, hsame, List.map_id]
  | cons e rest ih =>
    rw [List.map_cons, List.nodup_cons] at hd
    obtain ⟨hfirst, hrest⟩ := hd
    have hrecord (b : BoardRecord) :
        s.dosed rest (if b.serial = e.serial then doseBoard (s.recipe b.slot).cureD (s.oven.usableTemp e.position) b
          else b) = s.dosed (e :: rest) b := by
      by_cases hb : b.serial = e.serial
      · have hnone : (rest.find? fun x => decide (x.serial = e.serial)) = none :=
          List.find?_eq_none.2 fun x hx hxe => hfirst (List.mem_map.2 ⟨x, hx, by simpa using hxe⟩)
        rw [if_pos hb]
        simp only [State.dosed, doseBoard_serial, hb, hnone, List.find?_cons, decide_true]
      · simp only [State.dosed, hb, Ne.symm hb, if_false, List.find?_cons, decide_false]
    rw [State.doseAll, ih _ hrest]
    refine congrArg (fun records => { s with records := records }) ?_
    calc _ = s.records.map (s.dosed rest ∘ fun b => if b.serial = e.serial then
              doseBoard (s.recipe b.slot).cureD (s.oven.usableTemp e.position) b else b) := List.map_map
      _ = s.records.map (s.dosed (e :: rest)) := List.map_congr_left fun b _ => hrecord b

theorem restartDose_eq (s : State) :
    s.restartDose = { s with oven := { s.oven with doseNext := s.oven.doseNext + 1000#32 } } := rfl

/-- The dose depends on the recipes, the layout and the zones, and not on the timer. -/
theorem dosed_setDoseNext (s : State) (next : Time) (es : List OvenEntry) :
    State.dosed { s with oven := { s.oven with doseNext := next } } es = s.dosed es := rfl

theorem execDoseTick_of_due (hdue : reached s.clock s.oven.doseNext = true) (hd : (s.oven.queue.map (·.serial)).Nodup) :
    execDoseTick s = .next { s with
      oven := { s.oven with doseNext := s.oven.doseNext + 1000#32 }
      records := s.records.map (s.dosed s.oven.queue) } := by
  rw [execDoseTick, if_pos hdue, restartDose_eq, doseAll_eq _ hd, dosed_setDoseNext]

end Sys2Proof.Machine

open Sys2Proof Machine in
/-- Settles O50: a pulse moves every entry alike, and a tick doses each record by its own entry, whose position one zone
holds. -/
theorem Sys2Proof.encoderMovesAndTicksDoseTheBoards : Obligations.EncoderMovesAndTicksDoseTheBoards := by
  intro s
  refine ⟨fun hy => ?unset, fun y hy => ?pulse, fun hempty hdue => ?emptyTick, fun y hy hsome hcount hdue hd => ?tick⟩
  case unset => rw [exec, execEncoderPulse, hy]
  case pulse =>
    intro u spacing
    rw [exec, execEncoderPulse_of_layout hy]
    simp only [crossesSpacing_advance_iff]
    rfl
  case emptyTick =>
    rw [exec, execDoseTick, if_pos hdue, hempty, State.doseAll, restartDose_eq]
  case tick =>
    intro within
    have hwithin (i : Fin 6) (x : Nat) : within i x ↔ y.Holds i x := by simp only [within, Layout.Holds]
    refine ⟨_, execDoseTick_of_due hdue hd, rfl, fun j => ?_⟩
    rw [List.getElem?_map]
    refine congrArg (fun f => s.records[j]?.map f) (funext fun b => ?_)
    rw [State.dosed]
    cases s.oven.queue.find? fun e => decide (e.serial = b.serial) with
    | none => rfl
    | some e =>
      have htemp := usableTemp_eq hy hsome hcount e.position fun i => hwithin i e.position
      dsimp only
      rw [htemp]
      rfl
end

section
/-!
The Oven Sensor Line and the stale zones (O49).
-/

namespace Sys2Proof.Machine

open Sys2Proof

variable {s : State} {zone high low check : Byte} {z : Fin 6}

/-- The zone count as a case split on the layout. -/
theorem zoneCount_eq (o : Oven) :
    o.zoneCount = match o.layout with
      | some y => y.lengths.length
      | none => 0 := by
  rw [Oven.zoneCount]
  cases o.layout <;> rfl

/-! ### A complete record (R155, R156) -/

/-- R155: the temperature field is the two's complement value of its two bytes. -/
theorem int16At_eq_toInt (zone high low check : Byte) :
    int16At [0x3C#8, zone, high, low, check] 2 = (high ++ low).toInt := by
  have hlow := low.isLt
  have hword : (high ++ low).toNat = high.toNat * 256 + low.toNat := by
    rw [BitVec.toNat_append, ← Nat.shiftLeft_add_eq_or_of_lt hlow, Nat.shiftLeft_eq]
  have hread : word16At [0x3C#8, zone, high, low, check] 2 = (high ++ low).toNat := hword.symm
  rw [int16At, hread, BitVec.toInt_eq_toNat_cond]
  split <;> split <;> omega

/-- R155, R156: a record whose zone is one of the six is taken when its check byte, its zone and its temperature hold. -/
theorem judgeSensor_zone (s : State) (hz : zone.toNat = z.val) (high low check : Byte) :
    s.judgeSensor [0x3C#8, zone, high, low, check] =
      if check = zone ^^^ high ^^^ low ∧ z.val < s.oven.zoneCount ∧ -500 ≤ (high ++ low).toInt ∧
          (high ++ low).toInt ≤ 4000 then
        { s with oven := { s.oven with
          zones := s.oven.zones.set z (⟨some (high ++ low).toInt, some s.clock, false, 0⟩ : Zone) } }
      else s := by
  have hzone : finOf 6 zone = some z := by
    rw [finOf_of_lt (hz ▸ z.isLt)]
    exact congrArg some (Fin.ext hz)
  have hfield : finOf 6 (byteAt [0x3C#8, zone, high, low, check] 1) = some z := hzone
  have hcheck : (sensorCheck [0x3C#8, zone, high, low, check] = byteAt [0x3C#8, zone, high, low, check] 4) ↔
      check = zone ^^^ high ^^^ low := eq_comm
  simp only [State.judgeSensor, hfield, hcheck, int16At_eq_toInt, sensorTempOk, Bool.and_eq_true, decide_eq_true_eq]

theorem judgeSensor_noZone (s : State) (hz : 6 ≤ zone.toNat) (high low check : Byte) :
    s.judgeSensor [0x3C#8, zone, high, low, check] = s := by
  have hfield : finOf 6 (byteAt [0x3C#8, zone, high, low, check] 1) = none := finOf_none hz
  rw [State.judgeSensor, hfield]

/-! ### The bytes of the line (R155) -/

theorem sensorByte_noStop (s : State) (b : Byte) : s.sensorByte b false = s.sensorWaiting := rfl

theorem sensorByte_noMarker {b : Byte} (hempty : s.oven.sensorBytes = []) (hb : b ≠ 0x3C#8) :
    s.sensorByte b true = s := by
  rw [State.sensorByte, if_neg (by decide), if_pos ⟨hempty, hb⟩]

theorem sensorByte_extends {b : Byte} (hlen : s.oven.sensorBytes.length < 4)
    (hstart : s.oven.sensorBytes ≠ [] ∨ b = 0x3C#8) :
    s.sensorByte b true = { s with oven := { s.oven with
      sensorBytes := s.oven.sensorBytes ++ [b], sensorGap := some (s.clock + 2#32) } } := by
  rw [State.sensorByte, if_neg (by decide), if_neg (by tauto), if_pos hlen]
  rfl

theorem sensorByte_completes (hgot : s.oven.sensorBytes = [0x3C#8, zone, high, low]) (check : Byte) :
    s.sensorByte check true = s.sensorWaiting.judgeSensor [0x3C#8, zone, high, low, check] := by
  rw [State.sensorByte, if_neg (by decide), hgot]
  rfl

/-! ### Staleness (R157) -/

theorem staleDue_iff (s : State) (z : Fin 6) :
    s.staleDue z = true ↔
      z.val < s.oven.zoneCount ∧ s.oven.zones[z].stale = false ∧ s.settings.zoneStaleLimit ≤ s.oven.zones[z].age := by
  simp only [State.staleDue, Bool.and_eq_true, decide_eq_true_eq, Bool.not_eq_true', and_assoc]

end Sys2Proof.Machine

open Sys2Proof Machine in
/-- Settles O49: a byte abandons, begins, extends or completes the record, and a complete one is judged by its zone byte. -/
theorem Sys2Proof.sensorRecordsUpdateZonesThatGoStale : Obligations.SensorRecordsUpdateZonesThatGoStale := by
  intro s waiting count
  have hcount : s.oven.zoneCount = count := zoneCount_eq s.oven
  refine ⟨fun b => ?noStop, fun b hempty hb => ?noMarker, fun b hlen hstart => ?extended,
    fun zone high low check z hgot hz => ?zone, fun zone high low check hgot hz => ?noZone, fun t hgap hdue => ?gap,
    fun z => ?stale⟩
  case noStop => exact congrArg Host.Outcome.next (sensorByte_noStop s b)
  case noMarker => exact congrArg Host.Outcome.next (sensorByte_noMarker hempty hb)
  case extended => exact congrArg Host.Outcome.next (sensorByte_extends hlen hstart)
  case zone =>
    intro temp
    rw [exec, execOvenSensorRecord, sensorByte_completes hgot, judgeSensor_zone _ hz, ← hcount]
    rfl
  case noZone =>
    rw [exec, execOvenSensorRecord, sensorByte_completes hgot, judgeSensor_noZone _ hz]
    rfl
  case gap =>
    rw [exec, execOvenSensorGapExpiry, if_pos (timerDue_of_reached hgap hdue)]
    rfl
  case stale =>
    rw [exec, execZoneStaleExpiry, ← apply_ite Host.Outcome.next]
    simp only [staleDue_iff, hcount]
    rfl
end

section
/-!
The dose of a tick (O51): the factor table, its scaling by a power of two, and the increment's bounds.
-/

namespace Sys2Proof.Machine

open Sys2Proof

/-! ### The scaled factor (R161) -/

/-- R161: a factor times a power of two, rounded down: a product for an exponent of 0 or more, else a quotient. -/
theorem floor_mul_two_zpow (m : Nat) (n : Int) :
    ⌊(m * 2 ^ n : ℚ)⌋₊ = if 0 ≤ n then m * 2 ^ n.toNat else m / 2 ^ (-n).toNat := by
  split
  case isTrue hn =>
    lift n to ℕ using hn
    rw [zpow_natCast, Int.toNat_natCast]
    exact_mod_cast Nat.floor_natCast (R := ℚ) (m * 2 ^ n)
  case isFalse hn =>
    obtain ⟨j, hj⟩ : ∃ j : ℕ, -n = j := Int.eq_ofNat_of_zero_le (by omega)
    have hquotient : (m * 2 ^ n : ℚ) = (m : ℚ) / ((2 ^ j : ℕ) : ℚ) := by
      rw [← neg_neg n, hj, zpow_neg, zpow_natCast, Nat.cast_pow, Nat.cast_ofNat, div_eq_mul_inv]
    rw [hquotient, Nat.floor_div_eq_div, hj, Int.toNat_natCast]

theorem doseFactor_bounds {k : Nat} (h : k ≤ 9) : 1000 ≤ doseFactor k ∧ doseFactor k ≤ 1866 := by
  interval_cases k <;> decide

/-- R161: the increment from -400 tenths on, `n` being the hundreds of the difference and `k` the whole degrees left. -/
theorem doseIncrement_of_ge {d n : Int} {k : Nat} (h : -400 ≤ d) (hn : min d 300 / 100 = n)
    (hk : ((min d 300 - 100 * n) / 10).toNat = k) :
    doseIncrement d = if 0 ≤ n then doseFactor k * 2 ^ n.toNat else doseFactor k / 2 ^ (-n).toNat := by
  have hrest : min d 300 % 100 = min d 300 - 100 * n := by omega
  rw [doseIncrement, if_neg (by omega)]
  simp only [hrest, hn, hk]

/-- R161: the increment is between 62 (at -400) and 8 000 (at 300 and above), and below 300 at most 7 464. -/
theorem doseIncrement_bounds {d n : Int} {k : Nat} (h : -400 ≤ d) (hn : min d 300 / 100 = n)
    (hk : ((min d 300 - 100 * n) / 10).toNat = k) :
    k ≤ 9 ∧ 62 ≤ doseIncrement d ∧ doseIncrement d ≤ 8000 ∧ (d < 300 → doseIncrement d ≤ 7464) := by
  have hdigit : k ≤ 9 := by omega
  obtain ⟨hlow, hhigh⟩ := doseFactor_bounds hdigit
  rw [doseIncrement_of_ge h hn hk]
  refine ⟨hdigit, ?_⟩
  obtain hbelow | ⟨habove, hlast⟩ | htop : n < 0 ∨ (0 ≤ n ∧ n ≤ 2) ∨ n = 3 := by omega
  · have hscale : 2 ^ (-n).toNat ≤ 2 ^ 4 := Nat.pow_le_pow_right (by decide) (by omega)
    have hleast : 1000 / 2 ^ 4 ≤ doseFactor k / 2 ^ (-n).toNat := Nat.div_le_div hlow hscale (by positivity)
    have hmost := Nat.div_le_self (doseFactor k) (2 ^ (-n).toNat)
    rw [if_neg (by omega)]
    omega
  · have hscale : 2 ^ n.toNat ≤ 2 ^ 2 := Nat.pow_le_pow_right (by decide) (by omega)
    have hleast := Nat.le_mul_of_pos_right (doseFactor k) (show 0 < 2 ^ n.toNat by positivity)
    have hmost := Nat.mul_le_mul hhigh hscale
    rw [if_pos habove]
    omega
  · obtain rfl : k = 0 := by omega
    subst htop
    exact ⟨by decide, by decide, by omega⟩

/-! ### One tick of one board (R160, R162) -/

theorem doseBoard_unusable (c : Cure) (b : BoardRecord) :
    doseBoard c none b = { b with
      reasons := b.reasons.set Reason.tempStale.idx true
      cured := b.cured || decide (c.targetMinutes * 60000 ≤ b.dose) } := rfl

theorem doseBoard_usable (c : Cure) (temp : Int) (b : BoardRecord) :
    let dose := min (2 ^ 32 - 1) (b.dose + doseIncrement (temp - c.refTemp))
    doseBoard c (some temp) b = { b with
      reasons := if c.overheatMargin < temp - c.refTemp then b.reasons.set Reason.overheat.idx true else b.reasons
      dose := dose
      cured := b.cured || decide (c.targetMinutes * 60000 ≤ dose) } := by
  dsimp only [doseBoard]
  split <;> rfl

end Sys2Proof.Machine

open Sys2Proof Machine in
/-- Settles O51: the increment is the floor of the scaled factor, whose bounds are those of the factor table. -/
theorem Sys2Proof.doseIncrementFollowsTheFactorTable : Obligations.DoseIncrementFollowsTheFactorTable := by
  intro c b
  refine ⟨doseBoard_unusable c b, fun temp => ?_⟩
  intro d d' n k factors increment dose
  have hincrement : doseIncrement d = increment := by
    by_cases hd : d < -400
    · simp only [doseIncrement, increment, hd, if_true]
    · rw [doseIncrement_of_ge (not_lt.1 hd) rfl rfl, ← floor_mul_two_zpow]
      exact (if_neg hd).symm
  refine ⟨fun hd => ?bounds, fun hd => ?below, ?tick⟩
  case bounds =>
    obtain ⟨hdigit, hlow, hhigh, -⟩ := doseIncrement_bounds hd rfl rfl
    exact ⟨hdigit, hincrement ▸ hlow, hincrement ▸ hhigh⟩
  case below =>
    rw [← hincrement]
    by_cases hcold : d < -400
    · simp [doseIncrement, hcold]
    · obtain ⟨-, -, -, hlast⟩ := doseIncrement_bounds (not_lt.1 hcold) rfl rfl
      exact hlast hd
  case tick =>
    simp only [dose, ← hincrement]
    exact doseBoard_usable c temp b
end

section
/-!
The oven exit (O52): the head of the queue, judged by its dose.
-/

namespace Sys2Proof.Machine

open Sys2Proof

variable {s : State} {b : BoardRecord} {e : OvenEntry} {rest : List OvenEntry}

/-- R163: the exit threshold as a case split on the layout. -/
theorem exitThreshold_eq (s : State) :
    s.exitThreshold = ((match s.oven.layout with
      | some y => y.lengths.sum
      | none => 0) - s.settings.exitWindow) * 1000 := by
  rw [State.exitThreshold]
  cases s.oven.layout <;> rfl

/-! ### The judgement (R164) -/

theorem setAny_iff {n : Nat} (v : FlagSet n) : setAny v = true ↔ ∃ i : Fin n, v[i] = true := by
  simp [setAny, Vector.any_eq_true, Fin.exists_iff]

/-- A member inserted under a condition. -/
theorem ite_setInsert {n : Nat} (v : FlagSet n) (j : Fin n) (p : Prop) [Decidable p] :
    (if p then setInsert v j else v) = Vector.ofFn fun i => v[i] || (decide (i = j) && decide p) := by
  ext i hi
  by_cases hp : p
  · simp [hp, setInsert, Vector.getElem_set, Fin.ext_iff, eq_comm, Bool.or_comm]
  · simp [hp]

/-- R164: the reasons after the judgement of a dose against the target and the over-cure limit. -/
theorem judgeDose_eq (c : Cure) (b : BoardRecord) :
    judgeDose c b = { b with reasons := Vector.ofFn fun i => b.reasons[i] ||
      (decide (i = Reason.undercure.idx) && decide (b.dose < c.targetMinutes * 60000)) ||
      (decide (i = Reason.overcure.idx) && decide (600 * c.targetMinutes * c.overCure < b.dose)) } := by
  have hreasons : (Vector.ofFn fun i => b.reasons[i] ||
      (decide (i = Reason.undercure.idx) && decide (b.dose < c.target)) ||
      (decide (i = Reason.overcure.idx) && decide (c.overLimit < b.dose))) =
      if c.overLimit < b.dose then
        setInsert (if b.dose < c.target then setInsert b.reasons Reason.undercure.idx else b.reasons) Reason.overcure.idx
      else if b.dose < c.target then setInsert b.reasons Reason.undercure.idx else b.reasons := by
    rw [ite_setInsert, ite_setInsert]
    simp
  refine Eq.trans ?_ (congrArg (fun v => { b with reasons := v }) hreasons.symm)
  dsimp only [judgeDose]
  split <;> split <;> rfl

/-! ### The head leaves (R163) -/

theorem judgeExit_finished (h : ¬ setAny (judgeDose (s.recipe b.slot).cureD b).reasons = true) :
    s.judgeExit b = raise .boardFinished (some b.lane) b.serial b.rework (s.removeRecord b.serial) := if_neg h

theorem judgeExit_held (h : setAny (judgeDose (s.recipe b.slot).cureD b).reasons = true) :
    s.judgeExit b = (s.modRecord b.serial fun _ => judgeDose (s.recipe b.slot).cureD b).ovenHold
      (judgeDose (s.recipe b.slot).cureD b) .exitRack := if_pos h

theorem execOvenExitEvent_below (hq : s.oven.queue = e :: rest) (hbelow : e.position < s.exitThreshold) :
    execOvenExitEvent s = .next (raise .strayBoard none 0 5 s) := by
  rw [execOvenExitEvent, hq]
  exact if_pos hbelow

theorem execOvenExitEvent_pops (hq : s.oven.queue = e :: rest) (hreached : s.exitThreshold ≤ e.position)
    (hb : s.record? e.serial = some b) :
    execOvenExitEvent s =
      .next (State.judgeExit { s with oven := { s.oven with queue := rest } } b).reevaluate := by
  have hpopped : State.record? { s with oven := { s.oven with queue := rest } } e.serial = some b := hb
  rw [execOvenExitEvent, hq]
  dsimp only
  rw [if_neg (not_lt.2 hreached), State.popHead]
  simp only [hpopped]

end Sys2Proof.Machine

open Sys2Proof Machine in
/-- Settles O52: the head is compared with the exit threshold, and its reasons after the judgement decide where it goes. -/
theorem Sys2Proof.exitEventJudgesTheHead : Obligations.ExitEventJudgesTheHead := by
  intro s total threshold
  have hthreshold : s.exitThreshold = threshold := exitThreshold_eq s
  refine ⟨fun hempty => ?empty, fun e rest hq => ⟨fun hbelow => ?below, fun b hreached hb => ?popped⟩⟩
  case empty => rw [exec, execOvenExitEvent, hempty]
  case below => exact execOvenExitEvent_below hq (hthreshold ▸ hbelow)
  case popped =>
    intro c judged u
    have hjudged : judgeDose (u.recipe b.slot).cureD b = judged := judgeDose_eq c b
    have hany : setAny judged.reasons = true ↔ ¬ ∀ i : Fin 20, judged.reasons[i] = false := by
      simp only [setAny_iff, not_forall, Bool.not_eq_false]
    rw [exec, execOvenExitEvent_pops hq (hthreshold ▸ hreached) hb]
    split
    case isTrue hnone =>
      rw [judgeExit_finished (by rw [hjudged, hany]; exact not_not_intro hnone), State.removeRecord]
      simp only [bne_eq_decide_ne]
      rfl
    case isFalse hsome =>
      rw [judgeExit_held (by rw [hjudged, hany]; exact hsome), hjudged]
      rfl
end

section
/-!
DISPOSE RELEASE and SCRAP (O53).
-/

namespace Sys2Proof.Machine

open Sys2Proof

variable {s : State} {n : Nat} {b : BoardRecord} {p : Port}

/-! ### The conditions (R174, R175) -/

/-- The action of a DISPOSE that takes a board out of the line. -/
def outAction (scrap : Bool) : Action := if scrap then .scrap else .release

/-- The event that an accepted RELEASE or SCRAP raises (R176). -/
def outEvent (scrap : Bool) : EventKind := if scrap then .boardScrapped else .boardReleased

theorem release_allowedBy (i : Fin 20) :
    Action.release.allowedBy[i] = true ↔ i.val + 1 ∈ [4, 5, 6, 7, 8, 9, 10, 11, 12, 16, 18] := by
  revert i
  decide

theorem actionAllowed_scrap (v : FlagSet 20) : actionAllowed .scrap v = true := by
  simp [actionAllowed, Action.allowedBy]

/-- R174 conditions 2 to 4 of an action that takes a board out: an escalated hold and a reason outside R175's codes bar
a RELEASE, nothing bars a SCRAP, and the rework limit is no condition. -/
theorem disposable_out (scrap : Bool) (hr : s.record? n = some b) :
    s.disposable (outAction scrap) n =
      if b.stage ≠ .held then .error .wrongState
      else if scrap = false ∧ ((s.hold? n).any (fun e => decide (e.state = .escalated)) = true ∨
          ∃ i : Fin 20, b.reasons[i] = true ∧ i.val + 1 ∉ [4, 5, 6, 7, 8, 9, 10, 11, 12, 16, 18]) then
        .error .notAllowed
      else .ok b := by
  cases scrap with
  | true => simp [State.disposable, hr, outAction, actionAllowed_scrap]
  | false =>
    simp only [← actionAllowed_false_iff release_allowedBy, State.disposable, hr, outAction]
    simp [ite_or]

@[simp] theorem taken_hold? (s : State) (p : Port) (rest : List Frame) (m : Serial) :
    (s.taken p rest).hold? m = s.hold? m := by
  rw [State.hold?, taken_holds, State.hold?]

/-! ### The answer (R176) -/

theorem disposeLength_out (n : Nat) (scrap : Bool) :
    disposeLength (bytes32 n ++ [flagByte scrap]) = .ok (outAction scrap) := by
  cases scrap <;> rfl

theorem outAction_ne_respray (scrap : Bool) : outAction scrap ≠ .respray := by cases scrap <;> nofun

theorem disposeAnswer_out (scrap : Bool) (h1 : 1 ≤ n) (h2 : n < 2 ^ 32)
    (h : p = .bench ∨ s.settings.remoteDisposition = true) :
    disposeAnswer p (bytes32 n ++ [flagByte scrap]) s =
      afterConditions s (s.disposable (outAction scrap) n) fun b =>
        accept [toByte b.rework] (s.disposeOut (outEvent scrap) b) := by
  rw [disposeAnswer, if_neg (dispose_port h), disposeLength_out]
  dsimp only
  rw [if_neg (outAction_ne_respray scrap), word32At_eq h2]
  dsimp only
  rw [if_neg (by omega)]
  cases s.disposable (outAction scrap) n <;> cases scrap <;> rfl

theorem removeRecord_eq (s : State) (n : Serial) :
    s.removeRecord n = { s with records := s.records.filter fun r => decide (r.serial ≠ n) } := by
  rw [State.removeRecord, List.filter_congr fun r _ => bne_eq_decide_ne r.serial n]

/-- The rows DISPOSE_SCRAP and DISPOSE_RELEASE take their frame alike. -/
theorem exec_dispose_out (scrap : Bool) (p : Port) (tag : Byte) (d : List Byte) (s : State) :
    exec (if scrap then .disposeScrap p tag d else .disposeRelease p tag d) s =
      .next (takeCommand p ⟨0x60#8, tag, d⟩ (disposeAnswer p d) s) := by
  cases scrap <;> rfl

end Sys2Proof.Machine

open Sys2Proof Machine in
/-- Settles O53: the payload is read back, and the conditions are those of R174 to R176 in their order. -/
theorem Sys2Proof.releaseAndScrapRemoveTheBoard : Obligations.ReleaseAndScrapRemoveTheBoard := by
  intro s p tag rest n scrap h1 h2 hport payload hready u answer escalated
  have hremote : p = .bench ∨ u.settings.remoteDisposition = true := by simpa [u] using hport
  rw [exec_sent hready (exec_dispose_out scrap p tag payload s), disposeAnswer_out scrap h1 h2 hremote]
  cases hr : s.records.find? fun b => decide (b.serial = n) with
  | none =>
    rw [disposable_unknown (by rwa [taken_record?])]
    rfl
  | some b =>
    obtain rfl : b.serial = n := record?_serial s n b hr
    rw [disposable_out scrap (by rwa [taken_record?])]
    simp only [afterConditions_ite, afterConditions_error, afterConditions_ok, sent_ite, apply_ite Host.Outcome.next,
      State.disposeOut, removeHold_eq, removeRecord_eq, u, taken_hold?]
    rfl
end

section
/-!
LIST_HOLDS (O55).
-/

namespace Sys2Proof.Machine

open Sys2Proof

/-! ### The hold table as LIST_HOLDS replies it (R180) -/

theorem laneCountBytes_length (x : Lane) : (laneCountBytes x).length = 8 := rfl

theorem holdBytes_length (now : Time) (e : HoldEntry) : (holdBytes now e).length = 11 := rfl

theorem holdLocationByte_eq (x : HoldLocation) :
    toByte x.code = match x with
      | .lane .lane0 => 0#8
      | .lane .lane1 => 1#8
      | .exitRack => 2#8
      | .returnStation => 3#8 := by
  rcases x with (_ | _) | _ | _ <;> rfl

theorem holdStateByte_eq (x : HoldState) : toByte x.code = if x = .escalated then 1#8 else 0#8 := by cases x <;> rfl

theorem escalationTime_eq (now : Time) (deadline : Option Time) :
    (deadline.map (remaining now)).getD 0 = match deadline with
      | some t => if (t - now).toNat < 2 ^ 31 then (t - now).toNat else 0
      | none => 0 := by
  cases deadline <;> rfl

theorem holdBytes_of_fields {now : Time} {e : HoldEntry} {location state : Byte} {ms : Nat}
    (hlocation : toByte e.location.code = location) (hstate : toByte e.state.code = state)
    (hms : (e.deadline.map (remaining now)).getD 0 = ms) :
    holdBytes now e = bytes32 e.serial ++ [location, state, flagByte e.wet] ++ bytes32 ms := by
  rw [holdBytes, hlocation, hstate, hms]

/-- R180: the fields of the reply after its status. -/
def State.holdTableBytes (s : State) : List Byte :=
  toByte s.holds.length :: (bytes16 s.lane0.meter.idleDrip ++ bytes16 s.lane1.meter.idleDrip ++
    laneCountBytes s.lane0 ++ laneCountBytes s.lane1 ++ s.holds.flatMap (holdBytes s.clock))

theorem holdTableBytes_length (s : State) : s.holdTableBytes.length = 21 + 11 * s.holds.length := by
  simp only [State.holdTableBytes, List.length_cons, List.length_append, bytes16_length, laneCountBytes_length,
    length_flatMap_const (holdBytes_length s.clock)]
  omega

theorem taken_holdTableBytes (s : State) (p : Port) (rest : List Frame) :
    (s.taken p rest).holdTableBytes = s.holdTableBytes := by
  simp [State.holdTableBytes]

theorem listHoldsAnswer_nil (s : State) : listHoldsAnswer [] s = accept s.holdTableBytes s := rfl

end Sys2Proof.Machine

open Sys2Proof Machine in
/-- Settles O55: the fields are read off the state with the frame taken, which has them all unchanged. -/
theorem Sys2Proof.listHoldsRepliesTheTable : Obligations.ListHoldsRepliesTheTable := by
  intro s p tag rest hready counts hold fields
  have hhold : holdBytes s.clock = hold := funext fun e =>
    holdBytes_of_fields (holdLocationByte_eq e.location) (holdStateByte_eq e.state) (escalationTime_eq s.clock e.deadline)
  have hfields : fields = 0#8 :: s.holdTableBytes := by
    rw [State.holdTableBytes, hhold]
    rfl
  constructor
  · rw [hfields, List.length_cons, holdTableBytes_length]
    omega
  · rw [exec_accepted hready rfl (listHoldsAnswer_nil _), taken_holdTableBytes, hfields]
    rfl
end
